-- ==== Sys2Proof/Word.lean ====
section
/-! DEFINITION. The byte, the bus address and the fixed sizes of the Altwey 5830 (00_scope.md sections 4.1 to 4.4). -/

namespace Sys2Proof

/-- One byte of main memory or of a serial frame. -/
abbrev Byte := BitVec 8

/-- A 24-bit byte address as the processor-side bus carries it (00_scope.md 4.2). -/
abbrev BusAddr := BitVec 24

/-- Byte addresses run from 0 to `addressSpace - 1` (16 MiB, 00_scope.md 4.2). -/
def addressSpace : Nat := 16777216

/-- 64 KiB: the size and the alignment of the control area (R160). -/
def controlAreaSize : Nat := 65536

/-- Seconds of one production day (R47). -/
def secondsPerDay : Nat := 86400

/-- Periods of REFCLK in one second of the production day (R47). -/
def refclkPerSecond : Nat := 4915200

end Sys2Proof
end

