-- ==== Sys2Proof/Syntax.lean ====
section
/-! DEFINITION. The commands of the block: one constructor for each row of spec/opcode_table.json. -/

namespace Sys2Proof

/-- The data lines of a processor write of 1, 2 or 4 bytes (00_scope.md 4.2, R85). -/
inductive BusData where
  | byte (x : BitVec 8)
  | half (x : BitVec 16)
  | word (x : BitVec 32)
  deriving DecidableEq, Repr

/-- The size of a processor read (R85). -/
inductive XferSize where
  | one
  | two
  | four
  deriving DecidableEq, Repr

/-- The bits of a frame as a line receiver samples them (R131, R140). `mark` is sampled on SHARED lines only,
`parity` only under EVEN or ODD, `stop2` only with two stop bits. `true` is the marking level. -/
structure RxFrame where
  data : Byte
  mark : Bool
  parity : Bool
  stop1 : Bool
  stop2 : Bool
  deriving DecidableEq, Repr

/-- The commands, in the order of spec/opcode_table.json. The arguments of the host's requests (REGISTER to RELOAD)
are not operands here: they stand in the request record in main memory, which the request engine reads in the
step itself (R161, R162, R174). Internal steps of the part carry no operand: the state decides what they act on. -/
inductive Instr where
  | pwrrst
  | busrst
  | advance
  | processorRead (addr : BusAddr) (size : XferSize)
  | processorReadData
  | misalignedRead (addr : BusAddr) (size : XferSize)
  | misalignedWrite (addr : BusAddr) (data : BusData)
  | writeEntry (addr : BusAddr) (data : BusData)
  | heldWriteEntry
  | contextWordWrite (value : BitVec 32)
  | drain
  | requestProducerIndexWrite
  | noticeConsumerIndexWrite
  | keyRingConsumerWrite
  | unknownRequest
  | register
  | take
  | returnStory
  | file
  | kill
  | purge
  | loadwidths
  | widthPieceRead
  | style
  | allot
  | recountStart
  | recountPieceRead
  | settime
  | schedule
  | hold
  | setpage
  | place
  | unplace
  | release
  | reopen
  | clear
  | resume
  | lineclear
  | reload
  | reloadPieceRead
  | outcomeWrite
  | requestConsumerWrite
  | noticeRecordWrite
  | noticeProducerWrite
  | imageWrite
  | sendStart
  | linkTextRead
  | linkShiftCompletion
  | lreadyAssert
  | lreadyDeassert
  | lfaultAssert
  | lfaultDeassert
  | linkTimeout
  | lineShiftCompletion (line : Fin 16)
  | vacantPollEnd (line : Fin 16)
  | answerWindowExpiry (line : Fin 16)
  | answerGapExpiry (line : Fin 16)
  | startBitDetect (line : Fin 16)
  | receiveFrame (line : Fin 16) (frame : RxFrame)
  | breakDetect (line : Fin 16)
  | resyncEnd (line : Fin 16)
  | keyRingWrite
  | keyRingHeaderWrite
  | scanVisit
  | rowTake
  | spacingFrameReturnToMarking (line : Fin 16)
  deriving DecidableEq, Repr

end Sys2Proof
end

