-- ==== Sys2Proof/Decode.lean ====
section
/-! DEFINITION. The reading of a command from a word of bits. spec/opcode_table.json gives no row any bits: a command
of this block is an event, not an encoded word, so no word spells one. -/

namespace Sys2Proof

/-- The command that the `nbits` bits of `w` spell. No row of spec/opcode_table.json has bits, so the answer is
`none` for every word (spec/98_reader.md: "n_rows_with_fixed": 0, "n_rows_with_fields": 0). -/
def decodeTableWord (_nbits _w : Nat) : Option Instr := none

end Sys2Proof
end

