-- ==== Sys2Proof/Config.lean ====
section
/-! DEFINITION. What an installation fixes and what the manual leaves open (free values). -/

namespace Sys2Proof.Config

/-- FREE VALUE (log entry 4). R53: the evaluations of different editions at one advance or setting are separate
events and "the order in which they are taken decides the order of their pages" in the send queue; the manual
does not give that order. The k-th time an order has to be taken, it is the one this unknown number codes. -/
opaque editionOrder : Nat → Nat

/-- FREE VALUE (log entry 22). What a processor read returns for a byte past the last address that no queued write holds:
00_scope.md 4.2 gives no memory there, and R86 states no value. The arguments are the count of free values taken and the
address. -/
opaque beyondByte : Nat → Nat → Byte

/-- FREE VALUE (log entry 6). Whether a reset finds the operation that the arbiter grants on the memory side, so that R101
finishes it there, or finds the memory side free. The argument is the count of free values taken. -/
opaque operationUnderWay : Nat → Bool

/-- DESIGN CHOICE (log entry 1). What a byte of main memory that nothing has written reads as: the manual says
nothing of main memory's contents at power-on. -/
def unlistedByte : Byte := 0#8

/-- DESIGN CHOICE (log entry 2). The level of the BASESEL straps in `State.reset`; no statement rests on it. -/
def baseselAtReset : BitVec 4 := 0#4

/-- DESIGN CHOICE (log entry 2). The level of the LREADY input in `State.reset`. -/
def lreadyAtReset : Bool := false

/-- DESIGN CHOICE (log entry 2). The level of the LFAULT input in `State.reset`. -/
def lfaultAtReset : Bool := false

end Sys2Proof.Config
end

