-- ==== Sys2Proof/Machine/Table.lean ====
section
/-! DEFINITION. A table of a fixed number of entries, the shape of the part's story, page, edition, line and
terminal tables. The length is part of the type, so no state has a table of another length. -/

namespace Sys2Proof.Machine

/-- `n` entries of type `α`, in ascending number. -/
structure Table (n : Nat) (α : Type) where
  entries : List α
  size_eq : entries.length = n
  deriving DecidableEq, Repr

/-- Every entry the same. -/
def Table.fill (n : Nat) {α : Type} (a : α) : Table n α := ⟨List.replicate n a, List.length_replicate⟩

/-- Entry `i` is `f i`. -/
def Table.build (n : Nat) {α : Type} (f : Nat → α) : Table n α := ⟨(List.range n).map f, by simp⟩

/-- Every entry mapped through `f`. -/
def Table.map {n : Nat} {α β : Type} (t : Table n α) (f : α → β) : Table n β :=
  ⟨t.entries.map f, by simp [t.size_eq]⟩

/-- Entry `i`, counted from 0; `d` where the table has no entry `i`. -/
def Table.at0 {n : Nat} {α : Type} (t : Table n α) (d : α) (i : Nat) : α := t.entries.getD i d

/-- The table with entry `i`, counted from 0, replaced; unchanged where it has no entry `i`. -/
def Table.set0 {n : Nat} {α : Type} (t : Table n α) (i : Nat) (a : α) : Table n α :=
  ⟨t.entries.set i a, by simp [t.size_eq]⟩

/-- Entry `i` of a table whose numbers start at 1; number 0 has no entry (00_scope.md 4.5). -/
def Table.at1 {n : Nat} {α : Type} (t : Table n α) (d : α) (i : Nat) : α :=
  if i = 0 then d else t.at0 d (i - 1)

/-- The table with entry `i`, counted from 1, replaced. -/
def Table.set1 {n : Nat} {α : Type} (t : Table n α) (i : Nat) (a : α) : Table n α :=
  if i = 0 then t else t.set0 (i - 1) a

end Sys2Proof.Machine
end

