-- ==== Sys2Proof/Machine/Widths.lean ====
section
/-! DEFINITION. The built-in width table (R24). -/

namespace Sys2Proof.Machine

/-- R24: the built-in width of code `c`, the same for all four fonts. -/
def builtinWidth (c : Nat) : Nat :=
  if c = 0x49 then 5
  else if c = 0x4D then 15
  else if c = 0x57 then 16
  else if c = 0x66 ∨ c = 0x69 ∨ c = 0x6A ∨ c = 0x6C ∨ c = 0x74 then 5
  else if c = 0x72 then 6
  else if c = 0x6D then 14
  else if c = 0x77 then 13
  else if c = 0x7F then 0
  else if 0x30 ≤ c ∧ c ≤ 0x39 then 9
  else if 0x41 ≤ c ∧ c ≤ 0x5A then 12
  else if 0x61 ≤ c ∧ c ≤ 0x7A then 9
  else if 0x80 ≤ c then 10
  else 5

/-- The built-in width table: 224 entries from code 0x20 (R24). -/
def builtinTable : Table 224 Nat := Table.build 224 (fun i => builtinWidth (0x20 + i))

end Sys2Proof.Machine
end

