-- ==== Sys2Proof/Machine/State.lean ====
section
/-! DEFINITION. The state of the Altwey 5830, block by block (00_scope.md 2), and its value at reset. -/

namespace Sys2Proof.Machine

/-! ## Names of states, ranks, outcomes and notices (00_scope.md 4.7) -/

/-- R165. -/
inductive PartState where
  | notConfigured
  | running
  | passThrough
  deriving DecidableEq, Repr

/-- R165: the cause shown in the part state word. -/
inductive PartCause where
  | power
  | bus
  | reload
  | badBase
  deriving DecidableEq, Repr

/-- R1, section 1.2. -/
inductive StoryState where
  | free
  | filed
  | held
  | queued
  | sending
  | set
  | killed
  deriving DecidableEq, Repr

/-- R40. -/
inductive Fit where
  | unset
  | counting
  | under
  | fits
  | over
  deriving DecidableEq, Repr

/-- R1: the recount state of a story. -/
inductive Recount where
  | idle
  | waiting
  | counting
  deriving DecidableEq, Repr

/-- Section 1.5. -/
inductive Rank where
  | reporter
  | editor
  | slot
  deriving DecidableEq, Repr

/-- R50. `opened` is the manual's OPEN. -/
inductive EditionState where
  | opened
  | lockout
  | grace
  | closed
  deriving DecidableEq, Repr

/-- R64, section 4.2. -/
inductive PageState where
  | empty
  | makeup
  | queued
  | sending
  | sent
  | faulted
  | late
  deriving DecidableEq, Repr

/-- R117. -/
inductive LinkState where
  | idle
  | sending
  | halted
  deriving DecidableEq, Repr

/-- R131. -/
inductive LineMode where
  | direct
  | shared
  deriving DecidableEq, Repr

/-- R131. `off` is the manual's NONE. -/
inductive Parity where
  | off
  | even
  | odd
  deriving DecidableEq, Repr

/-- R135: the state of a line's transmitter. -/
inductive TxState where
  | idle
  | row
  | poll
  | wait
  | answer
  | vacant
  deriving DecidableEq, Repr

/-- R140: what a line's receiver is doing. `solicited` records that the start bit was detected while the
transmitter was in WAIT or ANSWER (R141). `spacing` is a frame that completed all spacing and waits to become a
framing error or a break. -/
inductive RxState where
  | looking
  | frame (solicited : Bool)
  | spacing (solicited : Bool)
  | resync
  deriving DecidableEq, Repr

/-- R136. -/
inductive DropState where
  | up
  | down
  deriving DecidableEq, Repr

/-- R142. `brk` is the manual's BREAK. -/
inductive KeyKind where
  | key
  | brk
  deriving DecidableEq, Repr

/-- R98: the turn mark. -/
inductive Turn where
  | engine
  | drain
  deriving DecidableEq, Repr

/-- The outcome of a request (00_scope.md 4.7, R174). -/
inductive ReqOutcome where
  | done
  | clamped
  | notReady
  | noTerminal
  | rank
  | noStory
  | noPage
  | badState
  | held
  | holding
  | full
  | overlap
  | busy
  | limit
  | closed
  | unfit
  | badArg
  | badConfig
  deriving DecidableEq, Repr

/-- R176: the kind of a notice. -/
inductive NoticeKind where
  | guard
  | image
  | busform
  | keyloss
  | line
  | drop
  | grace
  | closed
  | late
  | fault
  | sent
  | pass
  deriving DecidableEq, Repr

/-- R176: the cause of a notice. `noCause` is the manual's none. -/
inductive Cause where
  | noCause
  | inSend
  | set
  | unknown
  | released
  | restricted
  | notHolder
  | control
  | keyRing
  | read
  | write
  | dropped
  | partWord
  | full
  | guarded
  | parity
  | framing
  | unsolicited
  | answer
  | overrun
  | brk
  | up
  | down
  | fault
  | timeout
  | badBase
  deriving DecidableEq, Repr

/-- R170: an image or a word that waits to be written into the control area. -/
inductive MarkItem where
  | partState
  | time
  | line (n : Nat)
  | edition (e : Nat)
  | basket (b : Nat)
  | story (n : Nat)
  | page (p : Nat)
  | sendQueue
  | terminal (t : Nat)
  | widths (f : Nat)
  deriving DecidableEq, Repr

/-- R88: a membership of a byte of a write. `control = true` marks a part-written byte of the control area,
`false` one of a key ring header (R105). -/
inductive Membership where
  | text (story offset : Nat)
  | screen (terminal : Nat)
  | contextWord
  | requestProducer
  | noticeConsumer
  | keyConsumer (terminal : Nat)
  | partWritten (control : Bool)
  | hostLocation
  | plain
  deriving DecidableEq, Repr

/-! ## Main memory -/

/-- Main memory: (address, byte) pairs in one canonical form, see `Memory.wf`. -/
abbrev Memory := List Host.Cell

/-- The canonical form of memory: addresses strictly rise and no entry equals what an unlisted address reads as. -/
def Memory.wf : Memory → Bool
  | [] => true
  | (a, b) :: m => decide (b ≠ Config.unlistedByte) && m.all (fun c => decide (a < c.1)) && Memory.wf m

/-! ## The records of the blocks -/

/-- A story record (R1). The basket link is not stored here: it is the story's successor in its basket's list
(`State.basketLink`). `holder` 0 is none, `basket` 0 is no basket, `edition` 0 is none. -/
structure Story where
  state : StoryState
  base : Nat
  capacity : Nat
  edition : Nat
  basket : Nat
  urgent : Bool
  holder : Nat
  placement : Option (Nat × Nat)
  font : Nat
  size : Nat
  measure : Nat
  leading : Nat
  hole : Nat
  u : Nat
  p : Nat
  l : Nat
  d : Nat
  fit : Fit
  recount : Recount
  deriving DecidableEq, Repr

/-- The FREE values of R2. -/
def Story.freed : Story where
  state := .free
  base := 0
  capacity := 0
  edition := 0
  basket := 0
  urgent := false
  holder := 0
  placement := none
  font := 0
  size := 0
  measure := 0
  leading := 0
  hole := 0
  u := 0
  p := 0
  l := 0
  d := 0
  fit := .unset
  recount := .idle

/-- One entry of a page's list: a story and its hole (R65). -/
structure Placed where
  story : Nat
  hole : Nat
  deriving DecidableEq, Repr

/-- A page record (R64). `printed` 0, `edition` 0 and `sectionCode` 0 are none. -/
structure Page where
  printed : Nat
  edition : Nat
  sectionCode : Nat
  state : PageState
  placements : List Placed
  resumePos : Nat
  resumeOff : Nat
  deriving DecidableEq, Repr

/-- R64: a page record after either reset. -/
def Page.blank : Page := ⟨0, 0, 0, .empty, [], 0, 0⟩

/-- An edition record (R50). -/
structure Edition where
  scheduled : Bool
  lockout : Nat
  close : Nat
  state : EditionState
  graceEnd : Nat
  graceCount : Nat
  armed : Bool
  latched : Bool
  deriving DecidableEq, Repr

/-- R50: an edition record after PWRRST. -/
def Edition.unscheduled : Edition := ⟨false, 0, 0, .opened, 0, 0, false, false⟩

/-- The edition clock (R47, R50, R59). `second` counts REFCLK periods of the second in progress. -/
structure Clock where
  time : Nat
  second : Nat
  grace : Nat
  editions : Table 4 Edition
  deriving DecidableEq, Repr

/-- An entry of the recount list, with its drain tag (R32). -/
structure RecountEntry where
  story : Nat
  tag : Option Nat
  deriving DecidableEq, Repr

/-- The copyfit unit (R25, R32, R33): width tables by font, their sources (`true` is LOADED), the recount list and
the cursor of the recount in progress. -/
structure Copyfit where
  tables : Table 4 (Table 224 Nat)
  loaded : Table 4 Bool
  list : List RecountEntry
  cursor : Nat
  deriving DecidableEq, Repr

/-- An entry of the write queue (R90). Its size is the length of `data`; `members` gives each byte's memberships. -/
structure Entry where
  addr : Nat
  data : List Byte
  members : List (List Membership)
  seq : Nat
  deriving DecidableEq, Repr

/-- A processor write held on the bus (R89). -/
structure HeldWrite where
  addr : Nat
  data : List Byte
  deriving DecidableEq, Repr

/-- A processor read that waits for its memory read (R86). -/
structure ReadWait where
  addr : Nat
  size : Nat
  deriving DecidableEq, Repr

/-- The path unit (R90, R94, R98). `rot1`, `rot3`, `rot5` name the requester that each class's rotation looks at
first. `readData` is what the last completed processor read returned. -/
structure Path where
  queue : List Entry
  counter : Nat
  context : Nat
  held : Option HeldWrite
  read : Option ReadWait
  readData : Option (List Byte)
  turn : Turn
  rot1 : Nat
  rot3 : Nat
  rot5 : Nat
  deriving DecidableEq, Repr

/-- The configuration of a line (R131). -/
structure LineCfg where
  enabled : Bool
  mode : LineMode
  parity : Parity
  twoStop : Bool
  divisor : Nat
  deriving DecidableEq, Repr

/-- R131: a line's configuration after either reset. -/
def LineCfg.off : LineCfg := ⟨false, .direct, .off, false, 0⟩

/-- A terminal-map record in force (R173). -/
structure TermCfg where
  enabled : Bool
  line : Nat
  drop : Nat
  rank : Rank
  basket : Nat
  screen : Nat
  ring : Nat
  deriving DecidableEq, Repr

/-- A terminal that is not enabled: its other fields have no effect (R173). -/
def TermCfg.off : TermCfg := ⟨false, 0, 0, .reporter, 0, 0, 0⟩

/-- A configuration that a RELOAD has read, checked and clamped (R167, R173). -/
structure LoadedConfig where
  linkDivisor : Nat
  linkTimeout : Nat
  grace : Nat
  slice1 : Nat
  slice2 : Nat
  start : Nat
  lines : Table 16 LineCfg
  terms : Table 64 TermCfg
  deriving DecidableEq, Repr

/-- What the serving of an outcome write completes besides the request (R168). -/
inductive AfterOutcome where
  | plain
  | badConfig
  | configured (c : LoadedConfig) (newBase : Option Nat)
  deriving DecidableEq, Repr

/-- The request in progress (R161, R162, R166). `answered`: the outcome write is asked for. `loadingWidths`: the
pieces of a LOADWIDTHS are being read. `reloading`: the pieces of a RELOAD are being read. `indexWord`: the write
of the request consumer index word is awaited. -/
inductive Progress where
  | answered (o : ReqOutcome) (note : Nat) (after : AfterOutcome)
  | loadingWidths (font src : Nat) (widths : List Nat) (clamped : Nat)
  | reloading (bytes : List Byte)
  | indexWord
  deriving DecidableEq, Repr

/-- The request engine (R161, R162). -/
structure Engine where
  consumer : Nat
  latest : Nat
  progress : Option Progress
  wordFlag : Bool
  deriving DecidableEq, Repr

/-- A notice as its causing rule hands it over (R176). `none` is written as 0xFF. -/
structure Notice where
  kind : NoticeKind
  terminal : Option Nat
  page : Option Nat
  cause : Cause
  story : Nat
  unit : Option Nat
  graceCount : Nat
  time : Nat
  graceEnd : Nat
  deriving DecidableEq, Repr

/-- The notice writer (R106, R163). `unwritten` holds the reserved slots not yet written, oldest first; the oldest
stands at slot `published`. -/
structure NoticeWriter where
  reserved : Nat
  published : Nat
  consumer : Nat
  overflow : Bool
  wordFlag : Bool
  unwritten : List Notice
  refusedSystem : Bool
  refusedUnknown : Bool
  refused : Table 64 Bool
  deriving DecidableEq, Repr

/-- R124: what a link frame was made from. -/
inductive Origin where
  | pageStart
  | setup (i : Nat)
  | text (i x : Nat)
  | storyEnd (i : Nat)
  | pageEnd
  deriving DecidableEq, Repr

/-- A frame of the typesetter link: mark bit, data and origin (R115, R116). -/
structure LinkFrame where
  mark : Bool
  data : Byte
  origin : Origin
  deriving DecidableEq, Repr

/-- The stream position of a send: the next frame to produce (R118, R121). `setup i k` is frame `k` of STORY_START
and the setup commands of placement `i`; `text i x` is the text of placement `i` at scan offset `x`, and STORY_END when
`x` has reached the end of the block. -/
inductive StreamPos where
  | pageStart (k : Nat)
  | setup (i k : Nat)
  | text (i x : Nat)
  | pageEnd
  | finished
  deriving DecidableEq, Repr

/-- The send context (R117), with the stream position, the setup bytes of the present story, the bytes of the piece
buffer not yet translated, and the drain tag (`none` once it is absent or met). -/
structure SendCtx where
  page : Nat
  printed : Nat
  edition : Nat
  sectionCode : Nat
  placements : List Placed
  startPos : Nat
  startOff : Nat
  resumeFlag : Bool
  tag : Option Nat
  pos : StreamPos
  setup : List Byte
  piece : List Byte
  deriving DecidableEq, Repr

/-- The link unit (R114, R116, R117, R126). -/
structure Link where
  divisor : Nat
  timeout : Nat
  state : LinkState
  hold : Option LinkFrame
  shift : Option LinkFrame
  timer : Nat
  waitReady : Bool
  ctx : Option SendCtx
  deriving DecidableEq, Repr

/-- What a frame in a line's transmitter belongs to: a row (`last` on its last frame), a poll, or nothing any more
(its row or poll was given up while it was being shifted out, R132, R147). -/
inductive TxKind where
  | row (last : Bool)
  | poll
  | orphan
  deriving DecidableEq, Repr

/-- A frame of a line's transmitter (R131). A DIRECT frame has no mark bit; `mark` is false there. `bits` is the frame as it
goes out on TXD, first bit first, in the framing of the line when the frame was produced: a RELOAD that restarts the line
lets it end so (R132). `true` is the marking level. -/
structure TxFrame where
  mark : Bool
  data : Byte
  kind : TxKind
  bits : List Bool
  deriving DecidableEq, Repr

/-- A row record of a row queue (R134). -/
structure RowRec where
  terminal : Nat
  row : Nat
  snapshot : List Byte
  deriving DecidableEq, Repr

/-- A drop record (R136). -/
structure Drop where
  state : DropState
  miss : Nat
  rest : Nat
  deriving DecidableEq, Repr

/-- The record in a line's receive buffer (R142). -/
structure KeyRec where
  terminal : Nat
  kind : KeyKind
  code : Byte
  deriving DecidableEq, Repr

/-- A line controller (R131 to R143). `rowPos` is the next frame of the row being sent. `answerFrames` and
`answerKeys` count the completed frames and the key frames of the answer in progress (R137). -/
structure Line where
  cfg : LineCfg
  tx : TxState
  rowPos : Nat
  hold : Option TxFrame
  shift : Option TxFrame
  queue : List RowRec
  rx : RxState
  buffer : Option KeyRec
  error : Bool
  overrun : Bool
  brk : Bool
  drops : Table 4 (Option Drop)
  pollPtr : Option Nat
  answerFrames : Nat
  answerKeys : Nat
  deriving DecidableEq, Repr

/-- R147: a line after either reset; its receiver and counts: log entry 25. -/
def Line.off : Line where
  cfg := LineCfg.off
  tx := .idle
  rowPos := 0
  hold := none
  shift := none
  queue := []
  rx := .looking
  buffer := none
  error := false
  overrun := false
  brk := false
  drops := Table.fill 4 none
  pollPtr := none
  answerFrames := 0
  answerKeys := 0

/-- The part's side of a key ring (R144). `headerAsked`: a header write is asked for and not yet granted. -/
structure Ring where
  producer : Nat
  consumer : Nat
  overrun : Bool
  headerAsked : Bool
  deriving DecidableEq, Repr

/-- What the part keeps for one terminal: its map record (R173), ring state (R144; none while not enabled), dirty
set (R149) and last-taken status text (R151). -/
structure Terminal where
  cfg : TermCfg
  ring : Option Ring
  dirty : Table 24 Bool
  lastTaken : Option (List Byte)
  deriving DecidableEq, Repr

/-- A terminal after either reset (R144, R149, R151). -/
def Terminal.off : Terminal := ⟨TermCfg.off, none, Table.fill 24 false, none⟩

/-- A visit of the scanner (R154). -/
structure Visit where
  terminal : Nat
  slice : Nat
  taken : Nat
  deriving DecidableEq, Repr

/-- A row read asked for (R155). `stale`: a RELOAD has completed since it was asked for. -/
structure Take where
  terminal : Nat
  row : Nat
  addr : Nat
  stale : Bool
  deriving DecidableEq, Repr

/-- The screen scanner (R152, R153, R154). -/
structure Scanner where
  pos : Nat
  slice1 : Nat
  slice2 : Nat
  start : Nat
  visit : Option Visit
  take : Option Take
  deriving DecidableEq, Repr

/-- The pins: the BASESEL straps, the link's LREADY and LFAULT inputs and the ATTN output (00_scope.md 3). -/
structure Pins where
  basesel : BitVec 4
  lready : Bool
  lfault : Bool
  attn : Bool
  deriving DecidableEq, Repr

/-- The whole state. `free` counts the free values taken so far (the model's own field, log entries 4, 6, 22, 23); `pending` is
the queue of commands that wait, first in first out. -/
structure State where
  pins : Pins
  part : PartState
  cause : PartCause
  base : Nat
  mem : Memory
  path : Path
  engine : Engine
  notices : NoticeWriter
  marks : List MarkItem
  stories : Table 511 Story
  baskets : Table 23 (List Nat)
  copyfit : Copyfit
  clock : Clock
  pages : Table 96 Page
  sendQueue : List Nat
  link : Link
  lines : Table 16 Line
  terms : Table 64 Terminal
  scanner : Scanner
  free : Nat
  pending : List Instr
  deriving DecidableEq, Repr

/-! ## How a step can stop -/

/-- Why the machine stops with a fault: for no reason. The manual describes nothing that stops the part, and every command
answers a next state. -/
inductive Fault where
  deriving DecidableEq, Repr

/-- Why the machine has no meaning for a command. -/
inductive Refusal where
  /-- Raised by `exec` for a command that has no meaning yet, with its mnemonic. No arm uses it now. Safe. -/
  | notModelled (mnemonic : String)
  deriving DecidableEq, Repr

/-! ## Reset -/

/-- R101: the path unit after either reset. `readData` is what the bus last returned; a reset returns no data. -/
def Path.reset : Path := ⟨[], 0, 0, none, none, none, .engine, 0, 0, 0⟩

/-- R162: the request engine after either reset. -/
def Engine.reset : Engine := ⟨0, 0, none, false⟩

/-- R106, R163: the notice writer after either reset. -/
def NoticeWriter.reset : NoticeWriter := ⟨0, 0, 0, false, false, [], false, false, Table.fill 64 false⟩

/-- R46: the copyfit unit after PWRRST; its cursor: log entry 25. -/
def Copyfit.power : Copyfit := ⟨Table.fill 4 builtinTable, Table.fill 4 false, [], 0⟩

/-- R63: the clock after PWRRST. -/
def Clock.power : Clock := ⟨0, 0, 10, Table.fill 4 Edition.unscheduled⟩

/-- R130: the link after either reset. -/
def Link.reset : Link := ⟨0, 0, .idle, none, none, 0, false, none⟩

/-- R159: the scanner after either reset. -/
def Scanner.reset : Scanner := ⟨1, 1, 1, 1, none, none⟩

/-- R160: the control-area base that the straps give, BASESEL × 1 MiB. -/
def strapBase (b : BitVec 4) : Nat := b.toNat * 1048576

/-- The machine right after PWRRST (R171 and the reset rule of every chapter), with the input pins at the levels
`Config` names and main memory with nothing written. -/
def State.reset : State where
  pins := ⟨Config.baseselAtReset, Config.lreadyAtReset, Config.lfaultAtReset, false⟩
  part := .notConfigured
  cause := .power
  base := strapBase Config.baseselAtReset
  mem := []
  path := Path.reset
  engine := Engine.reset
  notices := NoticeWriter.reset
  marks := [.partState]
  stories := Table.fill 511 Story.freed
  baskets := Table.fill 23 []
  copyfit := Copyfit.power
  clock := Clock.power
  pages := Table.fill 96 Page.blank
  sendQueue := []
  link := Link.reset
  lines := Table.fill 16 Line.off
  terms := Table.fill 64 Terminal.off
  scanner := Scanner.reset
  free := 0
  pending := []

end Sys2Proof.Machine
end

