-- ==== Sys2Proof/Machine/Ops.lean ====
section
/-! DEFINITION. The shared operations over memory, the tables, the mark list and the notice writer. Every change of
a record goes through the operation here that also marks the record's image (R22, R83, R170). -/

namespace Sys2Proof.Machine

/-! ## The state with one field replaced -/

def State.withPins (s : State) (x : Pins) : State := { s with pins := x }

def State.withPart (s : State) (x : PartState) : State := { s with part := x }

def State.withCause (s : State) (x : PartCause) : State := { s with cause := x }

def State.withBase (s : State) (x : Nat) : State := { s with base := x }

def State.withMem (s : State) (x : Memory) : State := { s with mem := x }

def State.withPath (s : State) (x : Path) : State := { s with path := x }

def State.withEngine (s : State) (x : Engine) : State := { s with engine := x }

def State.withNotices (s : State) (x : NoticeWriter) : State := { s with notices := x }

def State.withMarks (s : State) (x : List MarkItem) : State := { s with marks := x }

def State.withStories (s : State) (x : Table 511 Story) : State := { s with stories := x }

def State.withBaskets (s : State) (x : Table 23 (List Nat)) : State := { s with baskets := x }

def State.withCopyfit (s : State) (x : Copyfit) : State := { s with copyfit := x }

def State.withClock (s : State) (x : Clock) : State := { s with clock := x }

def State.withPages (s : State) (x : Table 96 Page) : State := { s with pages := x }

def State.withSendQueue (s : State) (x : List Nat) : State := { s with sendQueue := x }

def State.withLink (s : State) (x : Link) : State := { s with link := x }

def State.withLines (s : State) (x : Table 16 Line) : State := { s with lines := x }

def State.withTerms (s : State) (x : Table 64 Terminal) : State := { s with terms := x }

def State.withScanner (s : State) (x : Scanner) : State := { s with scanner := x }

def State.withFree (s : State) (x : Nat) : State := { s with free := x }

def State.withPending (s : State) (x : List Instr) : State := { s with pending := x }

/-! ## Byte order (R172) -/

/-- A field of several bytes, least significant byte first. -/
def leNat : List Byte → Nat
  | [] => 0
  | b :: bs => b.toNat + 256 * leNat bs

/-- The `k` bytes of a field, least significant first. -/
def toLE : Nat → Nat → List Byte
  | 0, _ => []
  | k + 1, n => BitVec.ofNat 8 n :: toLE k (n / 256)

/-! ## Bits on a serial output (R115, R131) -/

/-- The data bits of a frame, least significant first. -/
def dataBits (b : Byte) : List Bool := (List.range 8).map b.getLsbD

/-! ## Main memory (R85, R86, R96) -/

/-- The byte at an address. -/
def Memory.read : Memory → Nat → Byte
  | [], _ => Config.unlistedByte
  | (a, b) :: m, x => if x = a then b else Memory.read m x

/-- Put a cell at its place in rising order; a byte equal to what an unlisted address reads as is not listed. -/
def Memory.insert : Memory → Nat → Byte → Memory
  | [], x, v => if v = Config.unlistedByte then [] else [(x, v)]
  | (a, b) :: m, x, v =>
    if a < x then (a, b) :: Memory.insert m x v
    else if v = Config.unlistedByte then (a, b) :: m
    else (x, v) :: (a, b) :: m

/-- One byte written; the canonical form is kept. -/
def Memory.write (m : Memory) (x : Nat) (v : Byte) : Memory :=
  Memory.insert (m.filter (fun c => c.1 ≠ x)) x v

/-- `n` bytes from address `a`, lowest first. -/
def Memory.readBytes (m : Memory) : Nat → Nat → List Byte
  | _, 0 => []
  | a, n + 1 => m.read a :: m.readBytes (a + 1) n

/-- Bytes written from address `a`, lowest first. -/
def Memory.writeBytes (m : Memory) : Nat → List Byte → Memory
  | _, [] => m
  | a, b :: bs => (m.write a b).writeBytes (a + 1) bs

/-- The part's or the path unit's read of main memory. -/
def State.readBytes (s : State) (a n : Nat) : List Byte := s.mem.readBytes a n

/-- The part's or the path unit's write of main memory. -/
def State.writeBytes (s : State) (a : Nat) (bs : List Byte) : State := s.withMem (s.mem.writeBytes a bs)

/-! ## Records by number -/

/-- Story numbers 1 to 511 (R1). -/
def storyNumbers : List Nat := List.range' 1 511

/-- The numbers, from `n` on, of the records of a list that satisfy `p`. -/
def numbersWhere (p : Story → Bool) : Nat → List Story → List Nat
  | _, [] => []
  | n, r :: rs => if p r then n :: numbersWhere p (n + 1) rs else numbersWhere p (n + 1) rs

/-- Terminal numbers 1 to 64. -/
def terminalNumbers : List Nat := List.range' 1 64

/-- Basket numbers 1 to 23. -/
def basketNumbers : List Nat := List.range' 1 23

/-- Edition numbers 1 to 4. -/
def editionNumbers : List Nat := List.range' 1 4

/-- Page indices 0 to 95. -/
def pageIndices : List Nat := List.range 96

/-- Line numbers 0 to 15. -/
def lineNumbers : List Nat := List.range 16

def State.story (s : State) (n : Nat) : Story := s.stories.at1 Story.freed n

def State.basket (s : State) (b : Nat) : List Nat := s.baskets.at1 [] b

def State.edition (s : State) (e : Nat) : Edition := s.clock.editions.at1 Edition.unscheduled e

def State.page (s : State) (p : Nat) : Page := s.pages.at0 Page.blank p

def State.line (s : State) (n : Nat) : Line := s.lines.at0 Line.off n

def State.term (s : State) (t : Nat) : Terminal := s.terms.at1 Terminal.off t

/-- A story number 1 to 511 (R8). -/
def validStory (n : Nat) : Bool := decide (1 ≤ n ∧ n ≤ 511)

/-- A page index 0 to 95 (R67). -/
def validPage (p : Nat) : Bool := decide (p ≤ 95)

/-- A basket number 1 to 23 (R3). -/
def validBasket (b : Nat) : Bool := decide (1 ≤ b ∧ b ≤ 23)

/-- An edition number 1 to 4 (R50). -/
def validEdition (e : Nat) : Bool := decide (1 ≤ e ∧ e ≤ 4)

/-- The numbers of the stories whose records satisfy `p`, ascending. -/
def State.storiesWhere (s : State) (p : Story → Bool) : List Nat := numbersWhere p 1 s.stories.entries

/-! ## Terminals and ranks (R7, section 1.5) -/

/-- Terminal `t` is enabled in the terminal map in force. -/
def State.enabled (s : State) (t : Nat) : Bool := (s.term t).cfg.enabled

/-- The requester is a terminal of rank REPORTER. -/
def State.isReporter (s : State) (q : Nat) : Bool := q != 0 && (s.term q).cfg.rank == .reporter

/-- The requester is a terminal of rank EDITOR. -/
def State.isEditor (s : State) (q : Nat) : Bool := q != 0 && (s.term q).cfg.rank == .editor

/-- The requester is the system or a terminal of rank SLOT. -/
def State.isSlotOrSystem (s : State) (q : Nat) : Bool := q == 0 || (s.term q).cfg.rank == .slot

/-- The story that terminal `t` holds (R7), 0 for none. -/
def State.heldBy (s : State) (t : Nat) : Nat := if t = 0 then 0 else (s.storiesWhere (fun r => r.holder == t)).headD 0

/-! ## Editions as other blocks read them (R62) -/

/-- The edition is LOCKOUT, GRACE or CLOSED. Edition 0 and an unscheduled edition are never restricted. -/
def State.restricted (s : State) (e : Nat) : Bool :=
  e != 0 && (s.edition e).scheduled && (s.edition e).state != .opened

/-- The edition is in LOCKOUT or GRACE, which gives the deadline slice (R154). -/
def State.nearDeadline (s : State) (e : Nat) : Bool :=
  e != 0 && (s.edition e).scheduled && ((s.edition e).state == .lockout || (s.edition e).state == .grace)

/-! ## Text blocks (R1, R87) -/

/-- The address just past the text block. -/
def Story.blockEnd (r : Story) : Nat := r.base + 256 * r.capacity

/-- A record in any state other than FREE is registered (R1). -/
def Story.registered (r : Story) : Bool := r.state != .free

/-- The registered story's text block shares an address with the `n` bytes from `a`. -/
def Story.touches (r : Story) (a n : Nat) : Bool :=
  r.registered && decide (r.base < a + n ∧ a < r.blockEnd ∧ 0 < n ∧ 0 < r.capacity)

/-- The registered stories whose blocks the `n` bytes from `a` touch, ascending. -/
def State.storiesTouched (s : State) (a n : Nat) : List Nat :=
  s.storiesWhere (fun r => r.touches a n)

/-- The story is closed to misaligned and part writes: SENDING or SET (R95, R111). -/
def Story.closedToWrites (r : Story) : Bool := r.state == .sending || r.state == .set

/-- Two address ranges share at least one address (R9). -/
def rangesOverlap (a n b m : Nat) : Bool := decide (a < b + m ∧ b < a + n ∧ 0 < n ∧ 0 < m)

/-! ## The mark list (R170) -/

/-- Mark an item for writing: appended if it is not on the list, left in its place if it is. -/
def State.mark (s : State) (i : MarkItem) : State :=
  if i ∈ s.marks then s else s.withMarks (s.marks ++ [i])

/-- Mark several items, in the order given (log entry 8). -/
def State.markEach (s : State) (is : List MarkItem) : State := is.foldl State.mark s

/-- All 721 items of R170, in the order in which R170 names them. -/
def allMarkItems : List MarkItem :=
  [.partState, .time] ++ lineNumbers.map .line ++ editionNumbers.map .edition ++ basketNumbers.map .basket
    ++ storyNumbers.map .story ++ pageIndices.map .page ++ [.sendQueue] ++ terminalNumbers.map .terminal
    ++ (List.range 4).map .widths

/-- R168: every image, the part state word and the time word are marked, in the order of R170 (log entry 8). -/
def State.markAll (s : State) : State :=
  s.withMarks (s.marks ++ allMarkItems.filter (fun i => !s.marks.contains i))

/-! ## Setters: a record is changed and its image marked -/

/-- R22: a change to any field of a story record marks its image. -/
def State.setStory (s : State) (n : Nat) (r : Story) : State :=
  if r = s.story n then s else (s.withStories (s.stories.set1 n r)).mark (.story n)

/-- R83: a change to any field of a page record marks its image. -/
def State.setPage (s : State) (p : Nat) (r : Page) : State :=
  if r = s.page p then s else (s.withPages (s.pages.set0 p r)).mark (.page p)

/-- R83: a change to the send queue marks its image. -/
def State.setSendQueue (s : State) (q : List Nat) : State :=
  if q = s.sendQueue then s else (s.withSendQueue q).mark .sendQueue

/-- R50: a change to any field of an edition record marks its image. -/
def State.setEdition (s : State) (e : Nat) (r : Edition) : State :=
  if r = s.edition e then s
  else (s.withClock { s.clock with editions := s.clock.editions.set1 e r }).mark (.edition e)

/-- R117: a change of the link state or of the link timer marks the part state word. -/
def State.setLink (s : State) (l : Link) : State :=
  if l.state = s.link.state ∧ l.timer = s.link.timer then s.withLink l
  else (s.withLink l).mark .partState

/-- A line is active while the part is RUNNING, its enabled flag is set and its divisor is nonzero (R131). -/
def activeUnder (p : PartState) (c : LineCfg) : Bool := p == .running && c.enabled && c.divisor != 0

/-- Line `n` is active (R131). -/
def State.lineActive (s : State) (n : Nat) : Bool := activeUnder s.part (s.line n).cfg

/-- The drop states the line status image shows: 0 no drop record, 1 UP, 2 DOWN (R178). -/
def dropCode : Option Drop → Nat
  | none => 0
  | some d => match d.state with
    | .up => 1
    | .down => 2

/-- What the line status image shows of a line (R131): configuration, transmitter state, row queue count, flags and
drop states. The transmitter shows IDLE while the line is not active (R178). -/
def lineShown (p : PartState) (l : Line) : LineCfg × TxState × Nat × (Bool × Bool × Bool) × List Nat :=
  (l.cfg, if activeUnder p l.cfg then l.tx else .idle, l.queue.length, (l.error, l.overrun, l.brk),
    l.drops.entries.map dropCode)

/-- R131: a change of what the line status image shows marks it. -/
def State.setLine (s : State) (n : Nat) (l : Line) : State :=
  let s' : State := s.withLines (s.lines.set0 n l)
  if lineShown s.part l = lineShown s.part (s.line n) then s' else s'.mark (.line n)

/-- The overrun mark of a terminal's key ring; clear where it has no ring state (R146). -/
def Terminal.overrunMark (r : Terminal) : Bool :=
  match r.ring with
  | some g => g.overrun
  | none => false

/-- The number of rows in the dirty set (R149). -/
def Terminal.dirtyCount (r : Terminal) : Nat := r.dirty.entries.count true

/-- R146, R149: a change of the dirty count or of the overrun mark marks the terminal status image. -/
def State.setTerm (s : State) (t : Nat) (r : Terminal) : State :=
  let s' : State := s.withTerms (s.terms.set1 t r)
  if r.dirtyCount = (s.term t).dirtyCount ∧ r.overrunMark = (s.term t).overrunMark then s'
  else s'.mark (.terminal t)

/-- Mark row `r` of terminal `t` dirty (R149). -/
def State.markDirty (s : State) (t r : Nat) : State :=
  s.setTerm t { s.term t with dirty := (s.term t).dirty.set0 r true }

/-- Mark all 24 rows of terminal `t` dirty (R149). -/
def State.markAllDirty (s : State) (t : Nat) : State :=
  s.setTerm t { s.term t with dirty := Table.fill 24 true }

/-! ## Notices (R163) -/

/-- A notice is handed over: it takes the slot at the reserved producer, or is dropped when 63 are unread. -/
def State.notify (s : State) (n : Notice) : State :=
  if (s.notices.reserved + 64 - s.notices.consumer) % 64 = 63 then
    s.withNotices { s.notices with overflow := true, wordFlag := true }
  else
    s.withNotices { s.notices with
        reserved := (s.notices.reserved + 1) % 64, unwritten := s.notices.unwritten ++ [n] }

/-- A notice that names nothing, at the present production-day time (R176). -/
def State.notice (s : State) (k : NoticeKind) (c : Cause) : Notice :=
  { kind := k, terminal := none, page := none, cause := c, story := 0, unit := none, graceCount := 0,
    time := s.clock.time, graceEnd := 0 }

/-- R164: what the ATTN output is while the part is in NOT CONFIGURED or RUNNING, and in PASS-THROUGH. -/
def attnLevel (p : PartState) (n : NoticeWriter) : Bool :=
  p == .passThrough || n.published != n.consumer

/-- ATTN after a change of an index or of the part state (R164). -/
def State.driveAttn (s : State) : State := s.withPins { s.pins with attn := attnLevel s.part s.notices }

/-! ## Drain tags (R92) -/

/-- The sequence number of the youngest entry in the write queue, or absent when the queue is empty. -/
def State.drainTag (s : State) : Option Nat := s.path.queue.getLast?.map (fun e => e.seq)

/-- Each drain is announced with the sequence number of the entry drained: a tag that names it is met (R92). -/
def State.announceDrain (s : State) (seq : Nat) : State :=
  let met := fun (t : Option Nat) => if t = some seq then none else t
  let s1 := s.withCopyfit { s.copyfit with list := s.copyfit.list.map (fun e => { e with tag := met e.tag }) }
  s1.withLink { s1.link with ctx := s1.link.ctx.map (fun c => { c with tag := met c.tag }) }

/-! ## Requests (R162) -/

/-- The request in progress has its outcome and note; the engine asks for the outcome write. -/
def State.answer (s : State) (o : ReqOutcome) (note : Nat) : State :=
  s.withEngine { s.engine with progress := some (.answered o note .plain) }

end Sys2Proof.Machine
end

