-- ==== Sys2Proof/Machine/Baskets.lean ====
section
/-! DEFINITION. Basket lists, headers and links (R3 to R6). A basket's list is stored once; its header and the basket
links of its stories are read from it. -/

namespace Sys2Proof.Machine

/-- The story that follows `n` in a list, 0 if `n` is last or not in it (R4). -/
def successorIn : List Nat → Nat → Nat
  | [], _ => 0
  | x :: xs, n => if x = n then xs.headD 0 else successorIn xs n

/-- The basket link of story `n` (R1, R4): the story after it in its basket, or 0. -/
def State.basketLink (s : State) (n : Nat) : Nat := successorIn (s.basket (s.story n).basket) n

/-- The header of basket `b` (R6): count, urgent count and first story. -/
def State.basketHeader (s : State) (b : Nat) : Nat × Nat × Nat :=
  ((s.basket b).length, (s.basket b).countP (fun n => (s.story n).urgent), (s.basket b).headD 0)

/-- The list of basket `b` becomes `l`. The header image is marked if the header changes (R6) and a story image if its
basket link changes (R22). -/
def State.setBasket (s : State) (b : Nat) (l : List Nat) : State :=
  let s' : State := s.withBaskets (s.baskets.set1 b l)
  let s'' := if s'.basketHeader b = s.basketHeader b then s' else s'.mark (.basket b)
  s''.markEach (((s.basket b).filter (fun n => successorIn l n != successorIn (s.basket b) n)).map .story)

/-- Where a story joins a list: an urgent one after the last urgent story, an ordinary one at the end (R4). -/
def joinedList (l : List Nat) (urgents : Nat) (urgent : Bool) (n : Nat) : List Nat :=
  if urgent then l.take urgents ++ n :: l.drop urgents else l ++ [n]

/-- R4: story `n` joins basket `b` as the last of its class. -/
def State.joinBasket (s : State) (n b : Nat) : State :=
  let l := joinedList (s.basket b) (s.basketHeader b).2.1 (s.story n).urgent n
  (s.setStory n { s.story n with basket := b }).setBasket b l

/-- R5: story `n` leaves its basket. -/
def State.leaveBasket (s : State) (n : Nat) : State :=
  let b := (s.story n).basket
  (s.setBasket b ((s.basket b).erase n)).setStory n { s.story n with basket := 0 }

end Sys2Proof.Machine
end

