-- ==== Sys2Proof/Machine/Layouts.lean ====
section
/-! DEFINITION. Chapter 11: the places of the control area's regions and the bytes of every record the part writes. -/

namespace Sys2Proof.Machine

/-- One byte of a record. -/
def byteOf (n : Nat) : Byte := BitVec.ofNat 8 n

/-- A flag at a bit's weight. -/
def bitOf (b : Bool) (w : Nat) : Nat := if b then w else 0

/-- A 1-byte field whose none is written 0xFF (R172). -/
def byteOrFF : Option Nat → Byte
  | some n => byteOf n
  | none => 0xFF#8

/-! ## Codes -/

/-- R178: story states. -/
def StoryState.code : StoryState → Nat
  | .free => 0
  | .filed => 1
  | .held => 2
  | .queued => 3
  | .sending => 4
  | .set => 5
  | .killed => 6

/-- R178: recount states. -/
def Recount.code : Recount → Nat
  | .idle => 0
  | .waiting => 1
  | .counting => 2

/-- R178: fit states. -/
def Fit.code : Fit → Nat
  | .unset => 0
  | .counting => 1
  | .under => 2
  | .fits => 3
  | .over => 4

/-- R178: page states. -/
def PageState.code : PageState → Nat
  | .empty => 0
  | .makeup => 1
  | .queued => 2
  | .sending => 3
  | .sent => 4
  | .faulted => 5
  | .late => 6

/-- R178: edition states. -/
def EditionState.code : EditionState → Nat
  | .opened => 0
  | .lockout => 1
  | .grace => 2
  | .closed => 3

/-- R175: part states. -/
def PartState.code : PartState → Nat
  | .notConfigured => 0
  | .running => 1
  | .passThrough => 2

/-- R175: causes of the part state. -/
def PartCause.code : PartCause → Nat
  | .power => 0
  | .bus => 1
  | .reload => 2
  | .badBase => 3

/-- R175: link states. -/
def LinkState.code : LinkState → Nat
  | .idle => 0
  | .sending => 1
  | .halted => 2

/-- R178: transmitter states. -/
def TxState.code : TxState → Nat
  | .idle => 0
  | .row => 1
  | .poll => 2
  | .wait => 3
  | .answer => 4
  | .vacant => 5

/-- R173, R178: parity values. -/
def Parity.code : Parity → Nat
  | .off => 0
  | .even => 1
  | .odd => 2

/-- R174: outcome codes. -/
def ReqOutcome.code : ReqOutcome → Nat
  | .done => 1
  | .clamped => 2
  | .notReady => 3
  | .noTerminal => 4
  | .rank => 5
  | .noStory => 6
  | .noPage => 7
  | .badState => 8
  | .held => 9
  | .holding => 10
  | .full => 11
  | .overlap => 12
  | .busy => 13
  | .limit => 14
  | .closed => 15
  | .unfit => 16
  | .badArg => 17
  | .badConfig => 18

/-- R176: notice kinds. -/
def NoticeKind.code : NoticeKind → Nat
  | .guard => 1
  | .image => 2
  | .busform => 3
  | .keyloss => 4
  | .line => 5
  | .drop => 6
  | .grace => 7
  | .closed => 8
  | .late => 9
  | .fault => 10
  | .sent => 11
  | .pass => 12

/-- R176: causes. -/
def Cause.code : Cause → Nat
  | .noCause => 0
  | .inSend => 1
  | .set => 2
  | .unknown => 3
  | .released => 4
  | .restricted => 5
  | .notHolder => 6
  | .control => 7
  | .keyRing => 8
  | .read => 9
  | .write => 10
  | .dropped => 11
  | .partWord => 12
  | .full => 13
  | .guarded => 14
  | .parity => 15
  | .framing => 16
  | .unsolicited => 17
  | .answer => 18
  | .overrun => 19
  | .brk => 20
  | .up => 21
  | .down => 22
  | .fault => 23
  | .timeout => 24
  | .badBase => 25

/-- R177: key kinds. -/
def KeyKind.code : KeyKind → Nat
  | .key => 1
  | .brk => 2

/-! ## Regions of the control area (R160) -/

/-- An address lies in the control area at `base`. -/
def inControlArea (base a : Nat) : Bool := decide (base ≤ a ∧ a < base + controlAreaSize)

/-- The part-written regions by offset: the four words, the notice ring and the image regions (R88, R105, R160). -/
def partWrittenRegions : List (Nat × Nat) :=
  [(0x0110, 16), (0x0600, 1024), (0x0E00, 128), (0x0E80, 64), (0x0F00, 192), (0x1000, 16384), (0x5000, 6144),
    (0x6800, 96), (0x6C00, 256), (0x7000, 896)]

/-- The host locations by offset: control block, request ring and terminal map (R88, R160). -/
def hostRegions : List (Nat × Nat) := [(0x0000, 256), (0x0200, 1024), (0x0A00, 1024)]

/-- An offset lies in one of the regions. -/
def inRegions (rs : List (Nat × Nat)) (off : Nat) : Bool := rs.any (fun r => decide (r.1 ≤ off ∧ off < r.1 + r.2))

/-! ## Words the part writes (R175) -/

/-- The part state word, 0x0110. -/
def State.partStateWord (s : State) : List Byte :=
  [byteOf s.part.code, byteOf s.cause.code,
    byteOf (bitOf (s.copyfit.loaded.at0 false 0) 1 + bitOf (s.copyfit.loaded.at0 false 1) 2
      + bitOf (s.copyfit.loaded.at0 false 2) 4 + bitOf (s.copyfit.loaded.at0 false 3) 8
      + bitOf s.notices.refusedSystem 16 + bitOf s.notices.refusedUnknown 32 + 64 * s.link.state.code),
    byteOf s.link.timer]

/-- The request consumer index word, 0x0114. -/
def State.requestConsumerWord (s : State) : List Byte := [byteOf s.engine.consumer, 0#8, 0#8, 0#8]

/-- The notice producer word, 0x0118. -/
def State.noticeProducerWord (s : State) : List Byte :=
  [byteOf s.notices.published, byteOf (bitOf s.notices.overflow 1), 0#8, 0#8]

/-- The production-day time word, 0x011C. -/
def State.timeWord (s : State) : List Byte := toLE 4 s.clock.time

/-- A notice record of 16 bytes (R176). -/
def Notice.bytes (n : Notice) : List Byte :=
  [byteOf n.kind.code, byteOrFF n.terminal, byteOrFF n.page, byteOf n.cause.code] ++ toLE 2 n.story
    ++ [byteOrFF n.unit, byteOf n.graceCount] ++ toLE 4 n.time ++ toLE 4 n.graceEnd

/-! ## Images (R178) -/

/-- The story image, 32 bytes at 0x1000 + 32 × s. -/
def State.storyImage (s : State) (n : Nat) : List Byte :=
  let r := s.story n
  [byteOf r.state.code, byteOf r.holder, byteOf r.basket,
    byteOf (bitOf r.urgent 1 + 2 * r.recount.code + 16 * r.fit.code), byteOf r.edition, byteOf r.font,
    byteOrFF (r.placement.map (·.1)), byteOrFF (r.placement.map (·.2))]
    ++ toLE 4 r.base ++ [byteOf r.capacity, byteOf r.size] ++ toLE 2 r.measure ++ toLE 2 r.leading ++ toLE 2 r.hole
    ++ toLE 4 r.u ++ toLE 2 r.p ++ toLE 2 r.l ++ toLE 2 r.d ++ toLE 2 (s.basketLink n)

/-- A placement slot of the page image: story then hole, both 0 beyond the placement count. -/
def placementSlot (l : List Placed) (i : Nat) : List Byte :=
  match l[i]? with
  | some q => toLE 2 q.story ++ toLE 2 q.hole
  | none => [0#8, 0#8, 0#8, 0#8]

/-- The page image, 64 bytes at 0x5000 + 64 × p. -/
def State.pageImage (s : State) (p : Nat) : List Byte :=
  let r := s.page p
  [byteOf r.state.code, byteOf r.edition, byteOf r.sectionCode, byteOf r.placements.length]
    ++ toLE 2 r.printed ++ [byteOf r.resumePos, 0#8] ++ toLE 2 r.resumeOff ++ List.replicate 6 0#8
    ++ (List.range 12).flatMap (placementSlot r.placements)

/-- The send queue image, 96 bytes at 0x6800: the queued pages from the head, then 0xFF. -/
def State.sendQueueImage (s : State) : List Byte :=
  (List.range 96).map (fun i => byteOrFF s.sendQueue[i]?)

/-- The edition image, 16 bytes at 0x0E80 + 16 × (e − 1). -/
def State.editionImage (s : State) (e : Nat) : List Byte :=
  let r := s.edition e
  [byteOf (bitOf r.scheduled 1), byteOf r.state.code, byteOf r.graceCount,
    byteOf (bitOf r.armed 1 + bitOf r.latched 2)] ++ toLE 4 r.lockout ++ toLE 4 r.close ++ toLE 4 r.graceEnd

/-- The basket header image, 8 bytes at 0x0F00 + 8 × b. -/
def State.basketImage (s : State) (b : Nat) : List Byte :=
  let h := s.basketHeader b
  toLE 2 h.1 ++ toLE 2 h.2.1 ++ toLE 2 h.2.2 ++ [0#8, 0#8]

/-- The line status image, 8 bytes at 0x0E00 + 8 × n. -/
def State.lineImage (s : State) (n : Nat) : List Byte :=
  let l := s.line n
  [byteOf (bitOf l.cfg.enabled 1 + bitOf (l.cfg.mode == .shared) 2 + 4 * l.cfg.parity.code + bitOf l.cfg.twoStop 16),
    byteOf (if s.lineActive n then l.tx.code else 0), byteOf l.queue.length,
    byteOf (bitOf l.error 1 + bitOf l.overrun 2 + bitOf l.brk 4),
    byteOf (dropCode (l.drops.at0 none 0) + 4 * dropCode (l.drops.at0 none 1) + 16 * dropCode (l.drops.at0 none 2)
      + 64 * dropCode (l.drops.at0 none 3))]
    ++ toLE 2 l.cfg.divisor ++ [0#8]

/-- The terminal status image, 4 bytes at 0x6C00 + 4 × (t − 1). -/
def State.terminalImage (s : State) (t : Nat) : List Byte :=
  [byteOf (s.term t).dirtyCount,
    byteOf (bitOf (s.notices.refused.at1 false t) 1 + bitOf (s.term t).overrunMark 2), 0#8, 0#8]

/-- The width table image, 224 bytes at 0x7000 + 224 × f. -/
def State.widthImage (s : State) (f : Nat) : List Byte :=
  (s.copyfit.tables.at0 builtinTable f).entries.map byteOf

/-- The offset at which an item is written (R160, R178). -/
def MarkItem.offset : MarkItem → Nat
  | .partState => 0x0110
  | .time => 0x011C
  | .line n => 0x0E00 + 8 * n
  | .edition e => 0x0E80 + 16 * (e - 1)
  | .basket b => 0x0F00 + 8 * b
  | .story n => 0x1000 + 32 * n
  | .page p => 0x5000 + 64 * p
  | .sendQueue => 0x6800
  | .terminal t => 0x6C00 + 4 * (t - 1)
  | .widths f => 0x7000 + 224 * f

/-- The bytes that a write of an item shows: the record as it stands (R170). -/
def State.itemBytes (s : State) : MarkItem → List Byte
  | .partState => s.partStateWord
  | .time => s.timeWord
  | .line n => s.lineImage n
  | .edition e => s.editionImage e
  | .basket b => s.basketImage b
  | .story n => s.storyImage n
  | .page p => s.pageImage p
  | .sendQueue => s.sendQueueImage
  | .terminal t => s.terminalImage t
  | .widths f => s.widthImage f

end Sys2Proof.Machine
end

