-- ==== Sys2Proof/Machine/Arbiter.lean ====
section
/-! DEFINITION. The memory-side arbiter (R97, R98): which operation is granted next, and what a grant does to the turn
mark and the rotations. In the model an operation is granted and served in one step (log entry 6). -/

namespace Sys2Proof.Machine

/-- The operations of the memory side (R96, R97). -/
inductive MemOp where
  | processorRead
  | drain
  | keyRecord (line : Nat)
  | keyHeader (line terminal : Nat)
  | linkText
  | requestRead
  | outcomeWrite
  | consumerWord
  | reloadPiece
  | noticeRecord
  | producerWord
  | image (i : MarkItem)
  | rowRead
  | recountPiece
  | widthPiece
  deriving DecidableEq, Repr

/-- The first terminal in ascending number whose header write is asked for on line `n` (R145; DEDUCED, log entry 24). -/
def State.headerAskedOn (s : State) (n : Nat) : Option Nat :=
  terminalNumbers.find? (fun t => s.enabled t && (s.term t).cfg.line == n
    && (match (s.term t).ring with
      | some g => g.headerAsked
      | none => false))

/-- Class 1: a line presents its key write first and its header writes after it (R145). -/
def State.lineAsks (s : State) (n : Nat) : Option MemOp :=
  if s.part = .running then
    match (s.line n).buffer with
    | some _ => some (.keyRecord n)
    | none => (s.headerAskedOn n).map (.keyHeader n)
  else none

/-- Length of the text block of the story at placement `i` of a send (R118). -/
def State.sendBlockLength (s : State) (c : SendCtx) (i : Nat) : Nat :=
  match c.placements[i]? with
  | some q => 256 * (s.story q.story).capacity
  | none => 0

/-- Class 2: the link asks for the next piece when its holding buffer is empty, its piece buffer is spent, the scan
offset is below the end of the block and the drain tag is absent or met (R110, R120, R121). -/
def State.linkAsks (s : State) : Option MemOp :=
  match s.link.ctx with
  | some c =>
    match c.pos with
    | .text i x =>
      if s.link.state = .sending ∧ s.link.hold = none ∧ c.tag = none ∧ c.piece = [] ∧ x < s.sendBlockLength c i then
        some .linkText
      else none
    | _ => none
  | none => none

/-- Class 3, the request engine (R161, R162, R166): it reads a record only while none is in progress, and takes no
request in PASS-THROUGH (R169). -/
def State.engineAsks (s : State) : Option MemOp :=
  match s.engine.progress with
  | none => if s.part ≠ .passThrough ∧ s.engine.consumer ≠ s.engine.latest then some .requestRead else none
  | some (.answered _ _ _) => some .outcomeWrite
  | some (.loadingWidths _ _ _ _) => none
  | some (.reloading _) => some .reloadPiece
  | some .indexWord => if s.engine.wordFlag = true then some .consumerWord else none

/-- Class 3, the notice writer (R163): the record write of the oldest unwritten slot first, then the producer word. -/
def State.noticesAsk (s : State) : Option MemOp :=
  if s.notices.unwritten ≠ [] then some .noticeRecord
  else if s.notices.wordFlag = true then some .producerWord
  else none

/-- R170: what the part state allows to be written. -/
def writable (p : PartState) (i : MarkItem) : Bool :=
  match p with
  | .notConfigured => i == .partState
  | .running => true
  | .passThrough => i == .partState || i == .time

/-- The first writable item of the mark list (R170). -/
def State.firstWritable (s : State) : Option MarkItem := s.marks.find? (writable s.part)

/-- Class 3, the image writing (R170). -/
def State.imagesAsk (s : State) : Option MemOp := s.firstWritable.map .image

/-- Class 4: the row read of the take in progress (R155). -/
def State.scannerAsks (s : State) : Option MemOp :=
  if s.part = .running ∧ s.scanner.take.isSome = true then some .rowRead else none

/-- The COUNTING story, which stands first in the recount list (R32). -/
def State.countingStory (s : State) : Option Nat :=
  match s.copyfit.list with
  | e :: _ => if (s.story e.story).recount = .counting then some e.story else none
  | [] => none

/-- Class 5, the recount (R34, R37). -/
def State.recountAsks (s : State) : Option MemOp :=
  if s.part = .running ∧ s.countingStory.isSome = true then some .recountPiece else none

/-- Class 5, the width-table load (R26). -/
def State.loadAsks (s : State) : Option MemOp :=
  match s.engine.progress with
  | some (.loadingWidths _ _ _ _) => some .widthPiece
  | _ => none

/-- The first of a class's requesters that waits, looking first at requester `rot` and wrapping (R98). -/
def inRotation (n rot : Nat) (asks : Nat → Option MemOp) : Option MemOp :=
  (List.range n).findSome? (fun i => asks ((rot + i) % n))

/-- Class 3's requesters in order: request engine, notice writer, image writing (R98). -/
def State.class3Asks (s : State) (i : Nat) : Option MemOp :=
  if i = 0 then s.engineAsks else if i = 1 then s.noticesAsk else s.imagesAsk

/-- Class 5's requesters in order: recount, width-table load (R98). -/
def State.class5Asks (s : State) (i : Nat) : Option MemOp := if i = 0 then s.recountAsks else s.loadAsks

/-- The engine operation that step 3 would grant: the highest class with an operation waiting (R97). -/
def State.engineOp (s : State) : Option MemOp :=
  (inRotation 16 s.path.rot1 s.lineAsks).or
    (s.linkAsks.or
      ((inRotation 3 s.path.rot3 s.class3Asks).or
        (s.scannerAsks.or (inRotation 2 s.path.rot5 s.class5Asks))))

/-- Step 2 of R97: four or more entries, or a processor write held on the bus. -/
def State.pressure (s : State) : Bool := decide (4 ≤ s.path.queue.length) || s.path.held.isSome

/-- R97, R98: the operation the arbiter grants when the memory side falls free. -/
def State.grant (s : State) : Option MemOp :=
  if s.path.read.isSome = true then some .processorRead
  else if s.path.queue ≠ [] ∧ s.pressure = true then some .drain
  else
    match s.path.turn with
    | .engine =>
      match s.engineOp with
      | some o => some o
      | none => if s.path.queue ≠ [] then some .drain else none
    | .drain => if s.path.queue ≠ [] then some .drain else s.engineOp

/-- R98: a grant of step 3 turns the mark to the other kind and moves its class's rotation; a processor read and a
pressure drain leave both as they were. -/
def State.charge (s : State) (o : MemOp) : State :=
  match o with
  | .processorRead => s
  | .drain => if s.pressure = true then s else s.withPath { s.path with turn := .engine }
  | .keyRecord n => s.withPath { s.path with turn := .drain, rot1 := (n + 1) % 16 }
  | .keyHeader n _ => s.withPath { s.path with turn := .drain, rot1 := (n + 1) % 16 }
  | .linkText => s.withPath { s.path with turn := .drain }
  | .requestRead => s.withPath { s.path with turn := .drain, rot3 := 1 }
  | .outcomeWrite => s.withPath { s.path with turn := .drain, rot3 := 1 }
  | .consumerWord => s.withPath { s.path with turn := .drain, rot3 := 1 }
  | .reloadPiece => s.withPath { s.path with turn := .drain, rot3 := 1 }
  | .noticeRecord => s.withPath { s.path with turn := .drain, rot3 := 2 }
  | .producerWord => s.withPath { s.path with turn := .drain, rot3 := 2 }
  | .image _ => s.withPath { s.path with turn := .drain, rot3 := 0 }
  | .rowRead => s.withPath { s.path with turn := .drain }
  | .recountPiece => s.withPath { s.path with turn := .drain, rot5 := 1 }
  | .widthPiece => s.withPath { s.path with turn := .drain, rot5 := 0 }

/-- An operation is served: if it is the one the arbiter grants, its grant is charged and its effect made; while
another operation is granted before it, it waits and nothing changes. -/
def State.serve (s : State) (o : MemOp) (effect : State → State) : State :=
  if s.grant = some o then effect (s.charge o) else s

end Sys2Proof.Machine
end

