-- ==== Sys2Proof/WellFormed.lean ====
section
/-! DEFINITION. Which commands are well formed: the bus rows ask for an aligned or for a misaligned transfer
(00_scope.md 4.2, R85, R95). Every other row admits every value of its operands. -/

namespace Sys2Proof

/-- The number of bytes a processor write carries (R85). -/
def BusData.size : BusData → Nat
  | .byte _ => 1
  | .half _ => 2
  | .word _ => 4

/-- The number of bytes a processor read asks for (R85). -/
def XferSize.bytes : XferSize → Nat
  | .one => 1
  | .two => 2
  | .four => 4

/-- A transfer is aligned when its address is a multiple of its size (00_scope.md 4.2). -/
def alignedAt (addr size : Nat) : Bool := addr % size == 0

/-- PROCESSOR_READ and WRITE_ENTRY are aligned transfers, MISALIGNED_READ and MISALIGNED_WRITE misaligned ones. -/
def Instr.wellFormed : Instr → Bool
  | .processorRead a n => alignedAt a.toNat n.bytes
  | .writeEntry a d => alignedAt a.toNat d.size
  | .misalignedRead a n => !alignedAt a.toNat n.bytes
  | .misalignedWrite a d => !alignedAt a.toNat d.size
  | .pwrrst => true
  | .busrst => true
  | .advance => true
  | .processorReadData => true
  | .heldWriteEntry => true
  | .contextWordWrite _ => true
  | .drain => true
  | .requestProducerIndexWrite => true
  | .noticeConsumerIndexWrite => true
  | .keyRingConsumerWrite => true
  | .unknownRequest => true
  | .register => true
  | .take => true
  | .returnStory => true
  | .file => true
  | .kill => true
  | .purge => true
  | .loadwidths => true
  | .widthPieceRead => true
  | .style => true
  | .allot => true
  | .recountStart => true
  | .recountPieceRead => true
  | .settime => true
  | .schedule => true
  | .hold => true
  | .setpage => true
  | .place => true
  | .unplace => true
  | .release => true
  | .reopen => true
  | .clear => true
  | .resume => true
  | .lineclear => true
  | .reload => true
  | .reloadPieceRead => true
  | .outcomeWrite => true
  | .requestConsumerWrite => true
  | .noticeRecordWrite => true
  | .noticeProducerWrite => true
  | .imageWrite => true
  | .sendStart => true
  | .linkTextRead => true
  | .linkShiftCompletion => true
  | .lreadyAssert => true
  | .lreadyDeassert => true
  | .lfaultAssert => true
  | .lfaultDeassert => true
  | .linkTimeout => true
  | .lineShiftCompletion _ => true
  | .vacantPollEnd _ => true
  | .answerWindowExpiry _ => true
  | .answerGapExpiry _ => true
  | .startBitDetect _ => true
  | .receiveFrame _ _ => true
  | .breakDetect _ => true
  | .resyncEnd _ => true
  | .keyRingWrite => true
  | .keyRingHeaderWrite => true
  | .scanVisit => true
  | .rowTake => true
  | .spacingFrameReturnToMarking _ => true

end Sys2Proof
end

