-- ==== Sys2Proof/Machine/Operands.lean ====
section
/-! DEFINITION. The operands of commands as the part reads them: the bytes of a bus transfer, and the fields of the
request record that stands at the request engine's consumer index (R161, R172, R174). -/

namespace Sys2Proof.Machine

/-- The bytes of a write, the one for the lowest address first (DEDUCED from R172, log entry 5). -/
def busBytes : BusData → List Byte
  | .byte x => [x]
  | .half x => toLE 2 x.toNat
  | .word x => toLE 4 x.toNat

/-- A request record as the engine reads it: its 32 bytes (R174). -/
structure Request where
  bytes : List Byte
  deriving DecidableEq, Repr

/-- A 1-byte field at a record offset. -/
def Request.u8 (r : Request) (off : Nat) : Nat := (r.bytes.getD off 0#8).toNat

/-- A 2-byte field at a record offset. -/
def Request.u16 (r : Request) (off : Nat) : Nat := leNat ((r.bytes.drop off).take 2)

/-- A 4-byte field at a record offset. -/
def Request.u32 (r : Request) (off : Nat) : Nat := leNat ((r.bytes.drop off).take 4)

/-- R174: the kind code. -/
def Request.kind (r : Request) : Nat := r.u8 0

/-- R174: the requester, 0 the system, 1 to 64 a terminal. -/
def Request.requester (r : Request) : Nat := r.u8 1

/-- The story argument, which stands at offset 8 in every request that has one first (R174). -/
def Request.story (r : Request) : Nat := r.u16 8

/-- The page argument of SETPAGE, RELEASE, REOPEN, CLEAR and RESUME (R174). -/
def Request.page (r : Request) : Nat := r.u8 8

/-- R174: the codes of the request kinds are 1 to 21. -/
def knownKind (k : Nat) : Bool := decide (1 ≤ k ∧ k ≤ 21)

/-- R174: the code of RELOAD. -/
def kindReload : Nat := 21

/-- The record at the consumer index (R161). -/
def State.requestAddr (s : State) : Nat := s.base + 0x200 + 32 * s.engine.consumer

/-- The request record that the engine's record read returns: memory as it stands (R96, R161). -/
def State.request (s : State) : Request := ⟨s.readBytes s.requestAddr 32⟩

end Sys2Proof.Machine
end

