-- ==== Sys2Proof/Machine/Screen.lean ====
section
/-! DEFINITION. The status row: its composition (R157, R158), its inputs, and the marking of row 23 when an input
changes (R151); the marking of screen rows at a drain (R150). -/

namespace Sys2Proof.Machine

/-! ## Characters and numbers (R157) -/

/-- `n` spaces. -/
def spaces (n : Nat) : List Byte := List.replicate n 0x20#8

/-- The last `k` decimal digits of `n`, with leading zeros. -/
def digits : Nat → Nat → List Byte
  | 0, _ => []
  | k + 1, n => digits k (n / 10) ++ [BitVec.ofNat 8 (0x30 + n % 10)]

/-- The codes of a row of characters (00_scope.md 4.6). -/
def codes (l : List Nat) : List Byte := l.map (BitVec.ofNat 8)

/-! ## The edition field, columns 0 to 19 (R157) -/

/-- R62, R157: the close time in OPEN and LOCKOUT, the grace end in GRACE. -/
def Edition.effectiveEnd (r : Edition) : Nat :=
  match r.state with
  | .grace => r.graceEnd
  | .opened => r.close
  | .lockout => r.close
  | .closed => r.close

/-- The scheduled edition, not CLOSED, with the smallest effective end; of two with the same end the lower-numbered.
0 if there is none (R157). -/
def State.nearestEdition (s : State) : Nat :=
  editionNumbers.foldl (fun best e =>
    let r := s.edition e
    if r.scheduled && r.state != .closed
        && (best == 0 || decide (r.effectiveEnd < (s.edition best).effectiveEnd)) then e
    else best) 0

/-- The state letter of the edition field. -/
def EditionState.letter : EditionState → Byte
  | .opened => 0x4F#8
  | .lockout => 0x4C#8
  | .grace => 0x47#8
  | .closed => 0x20#8

/-- Seconds remaining divided by 60, rounded up, and clamped to 999 (R157). -/
def minutesShown (endTime time : Nat) : Nat := min 999 ((endTime - time + 59) / 60)

/-- The ten characters of NO EDITION. -/
def noEdition : List Byte := codes [0x4E, 0x4F, 0x20, 0x45, 0x44, 0x49, 0x54, 0x49, 0x4F, 0x4E]

def State.editionField (s : State) : List Byte :=
  let e := s.nearestEdition
  if e = 0 then noEdition ++ spaces 10
  else
    let r := s.edition e
    [0x45#8] ++ digits 1 e ++ spaces 1 ++ [r.state.letter] ++ spaces 1
      ++ digits 3 (minutesShown r.effectiveEnd s.clock.time) ++ spaces 12

/-! ## The basket field, columns 20 to 39 (R157) -/

def State.basketField (s : State) (b : Nat) : List Byte :=
  let h := s.basketHeader b
  [0x42#8] ++ digits 2 b ++ spaces 1 ++ digits 3 h.1 ++ spaces 1 ++ [0x55#8] ++ digits 2 (min 99 h.2.1) ++ spaces 9

/-! ## The story field, columns 40 to 67 (R158) -/

/-- The line difference (R41): (D − A) / l toward zero, clamped into −99 to +99; blank when the fit is UNSET or
COUNTING. -/
def Story.lineDifference (r : Story) : Option Int :=
  match r.fit with
  | .unset => none
  | .counting => none
  | .under => some (max (-99) (min 99 (((r.d : Int) - r.hole).tdiv r.leading)))
  | .fits => some (max (-99) (min 99 (((r.d : Int) - r.hole).tdiv r.leading)))
  | .over => some (max (-99) (min 99 (((r.d : Int) - r.hole).tdiv r.leading)))

/-- The fit word, five columns, left-aligned (R158). -/
def Fit.word : Fit → List Byte
  | .unset => codes [0x55, 0x4E, 0x53, 0x45, 0x54]
  | .counting => codes [0x43, 0x4F, 0x55, 0x4E, 0x54]
  | .under => codes [0x55, 0x4E, 0x44, 0x45, 0x52]
  | .fits => codes [0x46, 0x49, 0x54, 0x53, 0x20]
  | .over => codes [0x4F, 0x56, 0x45, 0x52, 0x20]

def differenceField : Option Int → List Byte
  | none => spaces 4
  | some x => [if x < 0 then 0x2D#8 else 0x2B#8] ++ digits 2 x.natAbs ++ [0x4C#8]

def State.storyField (s : State) (n : Nat) : List Byte :=
  if n = 0 then spaces 28
  else
    let r := s.story n
    [0x53#8] ++ digits 3 n ++ spaces 1 ++ r.fit.word ++ spaces 1 ++ differenceField r.lineDifference ++ spaces 13

/-! ## The flags field, columns 68 to 79 (R158) -/

/-- The number of page records in state FAULTED. -/
def State.faultedPages (s : State) : Nat := s.pages.entries.countP (fun g => g.state == .faulted)

/-- A visit to `t` would use the deadline slice (R154, R158). -/
def State.deadlineTerminal (s : State) (t : Nat) : Bool :=
  s.heldBy t != 0 && s.nearDeadline (s.story (s.heldBy t)).edition

def flagLetter (b : Bool) (c : Byte) : Byte := if b then c else 0x20#8

def State.flagsField (s : State) (t : Nat) : List Byte :=
  [flagLetter (s.notices.refused.at1 false t) 0x52#8] ++ spaces 1 ++ [flagLetter (s.term t).overrunMark 0x4B#8]
    ++ spaces 1 ++ [flagLetter (s.faultedPages != 0) 0x54#8] ++ spaces 1 ++ [flagLetter (s.deadlineTerminal t) 0x57#8]
    ++ spaces 5

/-- The 80 characters of terminal `t`'s status row (R157, R158). -/
def State.statusRow (s : State) (t : Nat) : List Byte :=
  s.editionField ++ s.basketField (s.term t).cfg.basket ++ s.storyField (s.heldBy t) ++ s.flagsField t

/-! ## Inputs and marking (R151) -/

/-- The inputs that reach every enabled terminal. -/
structure CommonInputs where
  time : Nat
  editions : List Edition
  faulted : Nat
  deriving DecidableEq, Repr

/-- The inputs that reach one terminal alone: its home basket and the basket's header; of the story it holds the number,
state, fit, D, A and leading; its refused flag and its key ring's overrun mark. -/
structure OwnInputs where
  basket : Nat
  header : Nat × Nat × Nat
  story : Nat
  state : StoryState
  fit : Fit
  d : Nat
  hole : Nat
  leading : Nat
  refused : Bool
  overrun : Bool
  deriving DecidableEq, Repr

def State.commonInputs (s : State) : CommonInputs := ⟨s.clock.time, s.clock.editions.entries, s.faultedPages⟩

def State.ownInputs (s : State) (t : Nat) : OwnInputs where
  basket := (s.term t).cfg.basket
  header := s.basketHeader (s.term t).cfg.basket
  story := s.heldBy t
  state := (s.story (s.heldBy t)).state
  fit := (s.story (s.heldBy t)).fit
  d := (s.story (s.heldBy t)).d
  hole := (s.story (s.heldBy t)).hole
  leading := (s.story (s.heldBy t)).leading
  refused := s.notices.refused.at1 false t
  overrun := (s.term t).overrunMark

/-- One terminal of the composition after an event that led from `s0` to `s`: if an input changed and the composed
text differs from the last-taken text, row 23 is marked (R151). -/
def State.composeOne (s0 : State) (all : Bool) (s : State) (t : Nat) : State :=
  if (s0.enabled t && s.enabled t) && (all || decide (s0.ownInputs t ≠ s.ownInputs t))
      && decide ((s.term t).lastTaken ≠ some (s.statusRow t)) then s.markDirty t 23
  else s

/-- R151: the composition in the event that led from `s0` to `s`, made while the part is RUNNING (R159; DEDUCED, log entry
15). `force` is a SETTIME, which counts as an input even when it leaves the time as it was. -/
def State.compose (s0 s : State) (force : Bool) : State :=
  if s.part = .running then
    terminalNumbers.foldl (State.composeOne s0 (force || decide (s0.commonInputs ≠ s.commonInputs))) s
  else s

/-- The end of a step that led from `s0` to `s`. -/
def finish (s0 s : State) : Host.Outcome State Fault Refusal := .next (State.compose s0 s false)

/-! ## Screen rows in memory (R148, R150) -/

/-- The row of the terminal's screen buffer that holds the address, if its buffer holds it (R148). -/
def TermCfg.rowAt (c : TermCfg) (a : Nat) : Option Nat :=
  if c.enabled = true ∧ c.screen ≤ a ∧ a < c.screen + 1840 then some ((a - c.screen) / 80) else none

/-- R150: a drained screen byte marks the covering row on every enabled terminal whose buffer holds it. -/
def State.markScreens (s : State) (a : Nat) : State :=
  terminalNumbers.foldl (fun s t =>
    match (s.term t).cfg.rowAt a with
    | some r => s.markDirty t r
    | none => s) s

end Sys2Proof.Machine
end

