-- ==== Sys2Proof/Machine/Requests.lean ====
section
/-! DEFINITION. The dispatch event of the request engine (R161, R162), which every request shares. -/

namespace Sys2Proof.Machine

/-- The requester is the system or an enabled terminal (R162, check 3). -/
def State.knownRequester (s : State) (q : Nat) : Bool := q == 0 || (decide (q ≤ 64) && s.enabled q)

/-- The engine's own checks, in order, and then the owning block (R162). -/
def State.checkRequest (s : State) (r : Request) (owner : Request → State → State) : State :=
  if knownKind r.kind = false then s.answer .badArg 0
  else if s.part = .notConfigured ∧ r.kind ≠ kindReload then s.answer .notReady 0
  else if s.knownRequester r.requester = false then s.answer .noTerminal 0
  else owner r s

/-- The dispatch event for a record whose kind satisfies `isKind`. The step is the record read's completion: it is made
when the arbiter grants the read and the record read is of that kind; otherwise this is not the step that comes (log entry 7). -/
def State.dispatch (s : State) (isKind : Nat → Bool) (owner : Request → State → State) : State :=
  if isKind s.request.kind = true then
    s.serve .requestRead (fun s' => s'.checkRequest s.request owner)
  else s

/-- UNKNOWN_REQUEST (R162): a record whose kind names no request is answered BAD_ARG. -/
def execUnknownRequest (s : State) : Host.Outcome State Fault Refusal :=
  finish s (s.dispatch (fun k => !knownKind k) (fun _ s' => s'.answer .badArg 0))

end Sys2Proof.Machine
end

