-- ==== Sys2Proof/Machine/Copyfit.lean ====
section
/-! DEFINITION. Chapter 2: widths, sums, recounts, the depth computation, and the requests LOADWIDTHS, STYLE, ALLOT. -/

namespace Sys2Proof.Machine

/-! ## Widths (R23) -/

/-- The width of code `c` in font `f` by the effective tables (R23). -/
def State.width (s : State) (f : Nat) (c : Byte) : Nat :=
  if c.toNat < 0x20 then (if c = 0x1C#8 then 18 else 0)
  else (s.copyfit.tables.at0 builtinTable f).at0 0 (c.toNat - 0x20)

/-- 1 for a paragraph code, 0 for any other (R23). -/
def paragraphs (c : Byte) : Nat := if c = 0x1E#8 then 1 else 0

/-! ## The depth computation (R38 to R40) -/

/-- R38: the number of full lines F. -/
def fullLines (u h m : Nat) : Nat := u * h / (36 * m)

/-- R38: the line count L, saturating at 4,095. -/
def lineCount (u h m p : Nat) : Nat := min 4095 (fullLines u h m + p)

/-- R39: the depth D, saturating at 65,535. -/
def depth (l leading : Nat) : Nat := min 65535 (l * leading)

/-- R40: the fit state from D, A and the leading, the conditions tested in this order. -/
def fitOf (d a leading : Nat) : Fit :=
  if a = 0 then .unset
  else if d > a + leading then .over
  else if d + leading < a then .under
  else .fits

/-- R40: L, D and the fit recomputed from U, P, style and hole. -/
def Story.recomputed (r : Story) : Story :=
  { r with
    l := lineCount r.u r.size r.measure r.p
    d := depth (lineCount r.u r.size r.measure r.p) r.leading
    fit := fitOf (depth (lineCount r.u r.size r.measure r.p) r.leading) r.hole r.leading }

/-- R40, R43, R44: the fit is recomputed at once while the recount is IDLE; otherwise it stays COUNTING and the values
are used by the recount's completion. -/
def Story.refitted (r : Story) : Story := if r.recount = .idle then r.recomputed else r

/-! ## The recount list (R32 to R36) -/

/-- An IDLE story joins the back of the recount list and becomes WAITING; its fit shows COUNTING (R27, R32). -/
def State.joinRecount (s : State) (n : Nat) (tag : Option Nat) : State :=
  let s' := s.setStory n { s.story n with recount := .waiting, fit := .counting }
  s'.withCopyfit { s'.copyfit with list := s'.copyfit.list ++ [⟨n, tag⟩] }

/-- R35: the COUNTING story's recount begins again from offset 0. -/
def State.restartRecount (s : State) (n : Nat) : State :=
  let s' := s.setStory n { s.story n with u := 0, p := 0 }
  s'.withCopyfit { s'.copyfit with cursor := 0 }

/-- R27, R31: an IDLE story joins with no tag, a COUNTING story restarts, a WAITING story is unchanged; a FREE or KILLED
story takes no part. -/
def State.enterRecount (s : State) (n : Nat) : State :=
  let r := s.story n
  if r.state = .free ∨ r.state = .killed then s
  else match r.recount with
    | .idle => s.joinRecount n none
    | .waiting => s
    | .counting => s.restartRecount n

/-- R31: an uncounted write of `n` bytes at `a` puts every story whose block it touched into recount. -/
def State.uncountedWrite (s : State) (a n : Nat) : State := (s.storiesTouched a n).foldl State.enterRecount s

/-- R36: the story leaves the recount list and becomes IDLE; U and P are left as the abandoned count left them. -/
def State.leaveRecount (s : State) (n : Nat) : State :=
  let s' : State := s.withCopyfit { s.copyfit with list := s.copyfit.list.filter (fun e => e.story ≠ n) }
  s'.setStory n { s'.story n with recount := .idle }

/-- R36 for a KILL: an abandoned recount leaves D at the lesser of 65,535 and L × l, and the fit worked out from it. -/
def State.abandonForKill (s : State) (n : Nat) : State :=
  if (s.story n).recount = .idle then s
  else
    let s' := s.leaveRecount n
    let r := s'.story n
    s'.setStory n { r with d := depth r.l r.leading, fit := fitOf (depth r.l r.leading) r.hole r.leading }

/-- R36 for a PURGE: a recount in the list is abandoned before the record takes the FREE values. -/
def State.abandonForPurge (s : State) (n : Nat) : State :=
  if (s.story n).recount = .idle then s else s.leaveRecount n

/-! ## Drain deltas (R29) -/

/-- U and P changed by the delta of one drained byte. -/
def Story.withDelta (r : Story) (wNew wOld pNew pOld : Nat) : Story :=
  { r with u := r.u + wNew - wOld, p := r.p + pNew - pOld }

/-- R29: a drained text byte of story `n` at offset `off`, by the record as it stands at the drain. -/
def State.textDrained (s : State) (n off : Nat) (old new : Byte) : State :=
  let r := s.story n
  let r' := r.withDelta (s.width r.font new) (s.width r.font old) (paragraphs new) (paragraphs old)
  if r.state = .free ∨ r.state = .killed then s
  else match r.recount with
    | .idle => if r'.u = r.u ∧ r'.p = r.p then s else s.setStory n r'.recomputed
    | .waiting => s
    | .counting => if off < s.copyfit.cursor then s.setStory n r' else s

/-! ## RECOUNT_START and RECOUNT_PIECE_READ (R33, R34) -/

/-- R33: the first entry starts counting when it is WAITING, no story is COUNTING and its tag is absent or met. -/
def State.startRecount (s : State) : State :=
  match s.copyfit.list with
  | e :: _ =>
    if s.part = .running ∧ (s.story e.story).recount = .waiting ∧ e.tag = none then
      let s' := s.setStory e.story { s.story e.story with u := 0, p := 0, recount := .counting }
      s'.withCopyfit { s'.copyfit with cursor := 0 }
    else s
  | [] => s

/-- RECOUNT_START (R33). -/
def execRecountStart (s : State) : Host.Outcome State Fault Refusal := finish s s.startRecount

/-- R34: the sums after a piece. -/
def State.pieceWidths (s : State) (f : Nat) (bs : List Byte) : Nat := (bs.map (s.width f)).sum

/-- R34: the recount completes when the cursor reaches the end of the block. -/
def State.completeRecount (s : State) (n : Nat) : State :=
  let s' : State := s.withCopyfit { s.copyfit with list := s.copyfit.list.filter (fun e => e.story ≠ n) }
  s'.setStory n ({ s'.story n with recount := .idle }).recomputed

/-- R34: one 16-byte piece at the cursor is counted, the cursor advances, and the last piece completes the recount. -/
def State.countPiece (s : State) (n : Nat) : State :=
  let r := s.story n
  let bs := s.readBytes (r.base + s.copyfit.cursor) 16
  let s1 := s.setStory n { r with u := r.u + s.pieceWidths r.font bs, p := r.p + (bs.map paragraphs).sum }
  let s2 : State := s1.withCopyfit { s1.copyfit with cursor := s.copyfit.cursor + 16 }
  if 256 * r.capacity ≤ s.copyfit.cursor + 16 then s2.completeRecount n else s2

/-- RECOUNT_PIECE_READ (R34). -/
def execRecountPieceRead (s : State) : Host.Outcome State Fault Refusal :=
  finish s (s.serve .recountPiece (fun s' =>
    match s'.countingStory with
    | some n => s'.countPiece n
    | none => s'))

/-! ## LOADWIDTHS and WIDTH_PIECE_READ (R26, R27) -/

/-- R27: the stories a completed load of font `f` puts into recount, ascending. -/
def State.storiesInFont (s : State) (f : Nat) : List Nat :=
  s.storiesWhere (fun r => r.registered && r.state != .killed && r.font == f)

/-- R27: the completion of a load, one event. -/
def State.completeLoad (s : State) (f : Nat) (table : Table 224 Nat) (loaded : Bool) (clamped : Nat) : State :=
  let s1 : State := s.withCopyfit { s.copyfit with
    tables := s.copyfit.tables.set0 f table, loaded := s.copyfit.loaded.set0 f loaded }
  let s2 := s1.mark (.widths f)
  let s3 := if s.copyfit.loaded.at0 false f = loaded then s2 else s2.mark .partState
  let s4 := (s3.storiesInFont f).foldl State.enterRecount s3
  s4.answer (if clamped = 0 then .done else .clamped) clamped

/-- LOADWIDTHS (font, source address, built-in flag), R26. -/
def doLoadwidths (r : Request) (s : State) : State :=
  let f := r.u8 8
  let src := r.u32 12
  if r.requester ≠ 0 then s.answer .rank 0
  else if 3 < f then s.answer .badArg 0
  else if r.u8 9 ≠ 0 then s.completeLoad f builtinTable false 0
  else if src % 16 ≠ 0 ∨ addressSpace < src + 224 then s.answer .badArg 0
  else s.withEngine { s.engine with progress := some (.loadingWidths f src [] 0) }

/-- LOADWIDTHS (R26): the request code is 7 (R174). -/
def execLoadwidths (s : State) : Host.Outcome State Fault Refusal := finish s (s.dispatch (· == 7) doLoadwidths)

/-- The width table that a finished read gives. -/
def tableOf (ws : List Nat) : Table 224 Nat := Table.build 224 (fun i => ws.getD i 0)

/-- R26: one 16-byte piece of a load: each byte is the width of one code, clamped to 36; the 14th completes the load. -/
def State.widthPiece (s : State) (f src : Nat) (ws : List Nat) (clamped : Nat) : State :=
  let bs := s.readBytes (src + ws.length) 16
  let ws' := ws ++ bs.map (fun b => min 36 b.toNat)
  let clamped' := clamped + bs.countP (fun b => decide (36 < b.toNat))
  if 224 ≤ ws'.length then s.completeLoad f (tableOf ws') true clamped'
  else s.withEngine { s.engine with progress := some (.loadingWidths f src ws' clamped') }

/-- WIDTH_PIECE_READ (R26). -/
def execWidthPieceRead (s : State) : Host.Outcome State Fault Refusal :=
  finish s (s.serve .widthPiece (fun s' =>
    match s'.engine.progress with
    | some (.loadingWidths f src ws c) => s'.widthPiece f src ws c
    | _ => s'))

/-! ## STYLE and ALLOT (R42 to R44) -/

/-- A value brought into its range (00_scope.md 4.1, clamped). -/
def clampTo (lo hi v : Nat) : Nat := max lo (min hi v)

/-- A style: font, size, measure, leading. -/
structure Style where
  font : Nat
  size : Nat
  measure : Nat
  leading : Nat
  deriving DecidableEq, Repr

/-- R10, R42: each style value clamped into its range. -/
def Style.clamped (y : Style) : Style :=
  ⟨clampTo 0 3 y.font, clampTo 8 144 y.size, clampTo 36 720 y.measure, clampTo 8 288 y.leading⟩

/-- CLAMPED if any value was clamped, DONE otherwise (R10, R43). -/
def Style.outcome (y : Style) : ReqOutcome := if y.clamped = y then .done else .clamped

/-- A record with a style written. -/
def Story.withStyle (r : Story) (y : Style) : Story :=
  { r with font := y.font, size := y.size, measure := y.measure, leading := y.leading }

/-- R43: the style takes its new values, and the effect depends on the recount state and on whether the font changes. -/
def State.setStyle (s : State) (n : Nat) (y : Style) : State :=
  let r := s.story n
  let r' := r.withStyle y
  if r' = r then s
  else if y.font = r.font then s.setStory n r'.refitted
  else (s.setStory n r').enterRecount n

/-- STYLE (story, font, size, measure, leading), R43. -/
def doStyle (r : Request) (s : State) : State :=
  let n := r.story
  let q := r.requester
  let y : Style := ⟨r.u8 10, r.u8 11, r.u16 12, r.u16 14⟩
  let st := s.story n
  if validStory n = false then s.answer .noStory 0
  else if st.state ≠ .filed ∧ st.state ≠ .held then s.answer .badState 0
  else if st.state = .held ∧ st.holder ≠ q ∧ q ≠ 0 then s.answer .held 0
  else if s.isReporter q = true ∧ ¬(st.state = .held ∧ st.holder = q) then s.answer .rank 0
  else (s.setStyle n y.clamped).answer y.outcome 0

/-- STYLE (R43): the request code is 8 (R174). -/
def execStyle (s : State) : Host.Outcome State Fault Refusal := finish s (s.dispatch (· == 8) doStyle)

/-- R44, R65, R70: a story's hole A is set, and the fit recomputed if the story is IDLE. -/
def State.setHole (s : State) (n a : Nat) : State := s.setStory n ({ s.story n with hole := a }).refitted

/-- R65: the hole of a placed story's placement follows its A, and the page image is marked. -/
def State.setPlacementHole (s : State) (n a : Nat) : State :=
  match (s.story n).placement with
  | some (p, i) =>
    let g := s.page p
    (s.setPage p { g with placements := g.placements.set i ⟨n, a⟩ }).mark (.page p)
  | none => s

/-- ALLOT (story, hole), R44. -/
def doAllot (r : Request) (s : State) : State :=
  let n := r.story
  let a := r.u32 12
  let st := s.story n
  if validStory n = false then s.answer .noStory 0
  else if 65535 < a then s.answer .badArg 0
  else if s.isReporter r.requester = true then s.answer .rank 0
  else if st.state ≠ .filed ∧ st.state ≠ .held then s.answer .badState 0
  else ((s.setHole n a).setPlacementHole n a).answer .done 0

/-- ALLOT (R44): the request code is 9 (R174). -/
def execAllot (s : State) : Host.Outcome State Fault Refusal := finish s (s.dispatch (· == 9) doAllot)

end Sys2Proof.Machine
end

