-- ==== Sys2Proof/Machine/PageTable.lean ====
section
/-! DEFINITION. Operations on pages and placements that several blocks share (R65, R71, R73). -/

namespace Sys2Proof.Machine

/-- R65: each story of the list takes the placement (page, position), positions counted from `k`. -/
def State.renumber (s : State) (p : Nat) : Nat → List Placed → State
  | _, [] => s
  | k, q :: qs => (s.setStory q.story { s.story q.story with placement := some (p, k) }).renumber p (k + 1) qs

/-- R71: the story's placement is removed, and every later entry of the page moves up one position. -/
def State.removePlacement (s : State) (n : Nat) : State :=
  match (s.story n).placement with
  | some (p, i) =>
    let g := s.page p
    let s1 := s.setPage p { g with placements := g.placements.eraseIdx i }
    (s1.setStory n { s1.story n with placement := none }).renumber p 0 (g.placements.eraseIdx i)
  | none => s

/-- The stories placed on a page, in position order. -/
def State.placedOn (s : State) (p : Nat) : List Nat := (s.page p).placements.map (·.story)

/-- R18: a story leaves its basket and becomes QUEUED. -/
def State.queueStory (s : State) (n : Nat) : State :=
  let s' := s.leaveBasket n
  s'.setStory n { s'.story n with state := .queued }

/-- R73: the page is released: it becomes QUEUED, joins the send queue at the back, and its stories become QUEUED in
placement order. -/
def State.releasePage (s : State) (p : Nat) : State :=
  let s1 := s.setPage p { s.page p with state := .queued }
  let s2 := s1.setSendQueue (s1.sendQueue ++ [p])
  (s.placedOn p).foldl State.queueStory s2

end Sys2Proof.Machine
end

