-- ==== Sys2Proof/Machine/Clock.lean ====
section
/-! DEFINITION. Chapter 3: the production-day time, the edition records, their evaluation and close processing, and
the requests SETTIME, SCHEDULE and HOLD. -/

namespace Sys2Proof.Machine

/-! ## Close processing (R60, R61) -/

/-- A placed story that keeps its page from qualifying: not FILED, or its fit is not FITS (R60). -/
def State.notReady (s : State) (n : Nat) : Bool := (s.story n).state != .filed || (s.story n).fit != .fits

/-- R60: the page has a placement, and every placed story is FILED with fit FITS. -/
def State.qualifies (s : State) (p : Nat) : Bool :=
  !(s.placedOn p).isEmpty && (s.placedOn p).all (fun n => !s.notReady n)

/-- R61: a page taken by close processing is auto-released, or becomes LATE with a notice. -/
def State.judgePage (e : Nat) (s : State) (p : Nat) : State :=
  if (s.page p).state = .makeup ∧ (s.page p).edition = e then
    if s.qualifies p = true then s.releasePage p
    else
      (s.setPage p { s.page p with state := .late }).notify
        { s.notice .late .noCause with
          page := some p, story := ((s.placedOn p).find? s.notReady).getD 0, unit := some e }
  else s

/-- R60: the pages of the edition in MAKEUP, in ascending index, each judged on the records as they then stand. -/
def State.closeProcessing (s : State) (e : Nat) : State := pageIndices.foldl (State.judgePage e) s

/-! ## The three steps of an evaluation (R53 to R56) -/

/-- R54. -/
def State.lockoutStep (s : State) (e : Nat) : State :=
  let r := s.edition e
  if r.state = .opened ∧ r.lockout ≤ s.clock.time then s.setEdition e { r with state := .lockout } else s

/-- R55, R56: a grace window of edition `e` begins at the present time; `r` is its record with the hold used up. -/
def State.beginWindow (s : State) (e : Nat) (r : Edition) : State :=
  let r' := { r with
    state := .grace, graceEnd := min 86399 (s.clock.time + s.clock.grace * 60), graceCount := r.graceCount + 1 }
  (s.setEdition e r').notify
    { s.notice .grace .noCause with unit := some e, graceCount := r'.graceCount, graceEnd := r'.graceEnd }

/-- R55, R56: close processing, then CLOSED and its notice. -/
def State.closeEdition (s : State) (e : Nat) : State :=
  let s1 := s.closeProcessing e
  (s1.setEdition e { s1.edition e with state := .closed }).notify { s1.notice .closed .noCause with unit := some e }

/-- R55. -/
def State.closeStep (s : State) (e : Nat) : State :=
  let r := s.edition e
  if r.state = .lockout ∧ r.close ≤ s.clock.time then
    if r.armed = true then s.beginWindow e { r with armed := false } else s.closeEdition e
  else s

/-- R56. -/
def State.graceEndStep (s : State) (e : Nat) : State :=
  let r := s.edition e
  if r.state = .grace ∧ r.graceEnd ≤ s.clock.time then
    if r.latched = true then s.beginWindow e { r with latched := false } else s.closeEdition e
  else s

/-- R53: one edition is evaluated: the lockout step, the close step, the grace-end step. An edition that entered GRACE
in this evaluation is passed by the grace-end step (R56). An unscheduled edition is not evaluated. -/
def State.evaluate (s : State) (e : Nat) : State :=
  if (s.edition e).scheduled = true then
    let s2 := (s.lockoutStep e).closeStep e
    if (s.edition e).state = .grace then s2.graceEndStep e else s2
  else s

/-- The evaluation of the edition changes something. -/
def State.due (s : State) (e : Nat) : Bool :=
  let r := s.edition e
  r.scheduled && (match r.state with
    | .opened => decide (r.lockout ≤ s.clock.time)
    | .lockout => decide (r.close ≤ s.clock.time)
    | .grace => decide (r.graceEnd ≤ s.clock.time)
    | .closed => false)

/-- The order of `l` that the number `code` names: its first element is number `code % length`, and so on. -/
def orderOf : Nat → Nat → List Nat → List Nat
  | 0, _, _ => []
  | _ + 1, _, [] => []
  | k + 1, code, x :: xs =>
    let l := x :: xs
    let i := code % l.length
    l.getD i 0 :: orderOf k (code / l.length) (l.eraseIdx i)

/-- One edition's evaluation as an event of its own, with the composition of the status rows (R53, R151). -/
def State.evaluateEvent (s : State) (e : Nat) : State := State.compose s (s.evaluate e) false

/-- Every scheduled edition is evaluated. The order is taken from a free value when two or more editions have a step to
make (R53, log entry 4); the evaluation of an edition with no step to make changes nothing. -/
def State.evaluateAll (s : State) : State :=
  match editionNumbers.filter s.due with
  | [] => s
  | [e] => s.evaluateEvent e
  | l => (orderOf l.length (Config.editionOrder s.free) l).foldl State.evaluateEvent (s.withFree (s.free + 1))

/-! ## ADVANCE (R47, R48) -/

/-- R48: the day rollover of one edition record. -/
def Edition.rolledOver (r : Edition) : Edition :=
  { r with state := .opened, graceCount := 0, armed := false, latched := false, graceEnd := 0 }

/-- R48: every edition record is rolled over and its image marked. -/
def State.rollover (s : State) : State :=
  editionNumbers.foldl (fun s e => (s.setEdition e (s.edition e).rolledOver).mark (.edition e)) s

/-- R126: the link timer counts the advances while a frame waits for LREADY, stopping at 255. -/
def State.linkTimerTick (s : State) : State :=
  if s.link.state = .sending ∧ s.link.hold.isSome = true ∧ s.pins.lready = false then
    s.setLink { s.link with timer := min 255 (s.link.timer + 1) }
  else s

/-- R47, step 1: the time goes up by 1, or to 0 at the rollover; the second counter begins a new second. -/
def State.nextSecond (s : State) : State :=
  s.withClock { s.clock with time := (s.clock.time + 1) % secondsPerDay, second := 0 }

/-- R47, step 2, and R48: the rollover if this advance is one, and the evaluations. In PASS-THROUGH neither is made (R63). -/
def State.secondEvaluated (s : State) : State :=
  if s.part = .passThrough then s else if s.clock.time = 0 then s.rollover.evaluateAll else s.evaluateAll

/-- R47: one advance: the time, the evaluations, and then the mark of the time word. -/
def State.advance (s : State) : State := s.nextSecond.linkTimerTick.secondEvaluated.mark .time

/-- ADVANCE (R47). -/
def execAdvance (s : State) : Host.Outcome State Fault Refusal := finish s s.advance

/-- One period of REFCLK while no command waits: the second counter counts it, and the period that completes the second
makes the advance (R47, log entry 3). -/
def refclkPeriod (s : State) : State :=
  if refclkPerSecond ≤ s.clock.second + 1 then State.compose s s.advance false
  else s.withClock { s.clock with second := s.clock.second + 1 }

/-! ## SETTIME, SCHEDULE, HOLD (R49, R51, R52, R58) -/

/-- SETTIME (time), R49: the time, the evaluations, and then the mark of the time word. -/
def doSettime (r : Request) (s : State) : State :=
  let t := r.u32 8
  if r.requester ≠ 0 then s.answer .rank 0
  else
    let s1 := s.withClock { s.clock with time := min 86399 t, second := 0 }
    (State.compose s (s1.evaluateAll.mark .time) true).answer (if 86399 < t then .clamped else .done) 0

/-- SETTIME: the request code is 10 (R174). -/
def execSettime (s : State) : Host.Outcome State Fault Refusal := finish s (s.dispatch (· == 10) doSettime)

/-- R52: the record after steps 1 to 3 of a SCHEDULE. -/
def Edition.scheduledAt (r : Edition) (lockout close : Nat) (reopen : Bool) : Edition :=
  if reopen then
    { scheduled := true, lockout := lockout, close := close, state := .opened, graceEnd := 0, graceCount := 0,
      armed := false, latched := false }
  else { r with scheduled := true, lockout := lockout, close := close }

/-- SCHEDULE (edition, lockout, close, reopen flag), R51 and R52. -/
def doSchedule (r : Request) (s : State) : State :=
  let e := r.u8 8
  let close := min 86399 (r.u32 16)
  let lockout := min close (min 86399 (r.u32 12))
  if s.isSlotOrSystem r.requester = false then s.answer .rank 0
  else if validEdition e = false then s.answer .badArg 0
  else
    let s1 := s.setEdition e ((s.edition e).scheduledAt lockout close (r.u8 9 != 0))
    let s2 := (s1.evaluate e).mark (.edition e)
    s2.answer (if lockout = r.u32 12 ∧ close = r.u32 16 then .done else .clamped) (s2.edition e).state.code

/-- SCHEDULE: the request code is 11 (R174). -/
def execSchedule (s : State) : Host.Outcome State Fault Refusal := finish s (s.dispatch (· == 11) doSchedule)

/-- HOLD (edition), R58. -/
def doHold (r : Request) (s : State) : State :=
  let e := r.u8 8
  let ed := s.edition e
  if validEdition e = false then s.answer .badArg 0
  else if s.isSlotOrSystem r.requester = false then s.answer .rank 0
  else if ed.scheduled = false then s.answer .badState 0
  else match ed.state with
    | .closed => s.answer .closed 0
    | .opened =>
      if ed.armed = true then s.answer .busy 0
      else (s.setEdition e { ed with armed := true }).answer .done ed.graceCount
    | .lockout =>
      if ed.armed = true then s.answer .busy 0
      else (s.setEdition e { ed with armed := true }).answer .done ed.graceCount
    | .grace =>
      if ed.latched = true then s.answer .busy 0
      else if ed.graceCount = 3 then s.answer .limit 0
      else (s.setEdition e { ed with latched := true }).answer .done ed.graceCount

/-- HOLD: the request code is 12 (R174). The note of a refusal is 0 (DEDUCED, log entry 13). -/
def execHold (s : State) : Host.Outcome State Fault Refusal := finish s (s.dispatch (· == 12) doHold)

end Sys2Proof.Machine
end

