-- ==== Sys2Proof/Machine/KeyRings.lean ====
section
/-! DEFINITION. Key rings (R111, R144 to R146, R177). -/

namespace Sys2Proof.Machine

/-- The header of a key ring: producer, overrun mark, consumer field (R177). -/
def Ring.header (g : Ring) : List Byte :=
  [byteOf g.producer, byteOf (bitOf g.overrun 1)] ++ toLE 2 g.consumer

/-- The number of unread entries (R144). -/
def Ring.unread (g : Ring) : Nat := (g.producer + 32 - g.consumer) % 32

/-- The ring is full when 31 entries are unread (R144). -/
def Ring.isFull (g : Ring) : Bool := g.unread == 31

/-- The address of entry `k` of the ring at `base` (R177). -/
def ringEntryAddr (base k : Nat) : Nat := base + 4 + 2 * k

/-- The stories whose blocks the `n` bytes at `a` or the `m` bytes at `b` touch, ascending. -/
def State.touchedByEither (s : State) (a n b m : Nat) : List Nat :=
  s.storiesWhere (fun r => r.touches a n || r.touches b m)

/-- Of the stories touched, those closed to the part's key writes: SENDING or SET (R111). -/
def State.closedAmong (s : State) (l : List Nat) : List Nat := l.filter (fun k => (s.story k).closedToWrites)

/-- The ring state of terminal `t` becomes `g`. -/
def State.setRing (s : State) (t : Nat) (g : Ring) : State := s.setTerm t { s.term t with ring := some g }

/-- R111, R145: a KEYLOSS notice. -/
def State.keyloss (s : State) (t : Nat) (c : Cause) (story : Nat) : State :=
  s.notify { s.notice .keyloss c with terminal := some t, story := story }

/-- R145: a full ring with its mark clear: the mark is set and the header written with it. A header write already asked for
is taken up by this one (R146), and stays asked for when this one is not made (log entry 27). -/
def State.loseToFullRing (s : State) (t : Nat) (g : Ring) : State :=
  let base := (s.term t).cfg.ring
  match s.closedAmong (s.storiesTouched base 4) with
  | n :: _ => s.keyloss t .guarded n
  | [] =>
    let g' := { g with overrun := true, headerAsked := false }
    (((s.setRing t g').writeBytes base g'.header).keyloss t .full 0).uncountedWrite base 4

/-- R145: the record is written into the entry at the producer index, and the header with the new index. A header write
already asked for is taken up by this one (R146), and stays asked for when this one is GUARDED and not made (R111; DESIGN
CHOICE, log entry 27). -/
def State.writeKey (s : State) (t : Nat) (g : Ring) (k : KeyRec) : State :=
  let base := (s.term t).cfg.ring
  let at' := ringEntryAddr base g.producer
  let touched := s.touchedByEither at' 2 base 4
  match s.closedAmong touched with
  | n :: _ => s.keyloss t .guarded n
  | [] =>
    let g' := { g with producer := (g.producer + 1) % 32, headerAsked := false }
    touched.foldl State.enterRecount
      (((s.setRing t g').writeBytes at' [byteOf k.kind.code, k.code]).writeBytes base g'.header)

/-- R145: the key ring write of line `n`'s receive buffer, which it frees in every case. -/
def State.keyGranted (s : State) (n : Nat) (k : KeyRec) : State :=
  let s1 := s.setLine n { s.line n with buffer := none }
  match (s1.term k.terminal).ring with
  | none => s1
  | some g =>
    if g.isFull = true then
      if g.overrun = true then s1 else s1.loseToFullRing k.terminal g
    else s1.writeKey k.terminal g k

/-- The key write of line `n` is served. -/
def State.keyServed (s : State) (n : Nat) : State :=
  match (s.line n).buffer with
  | some k => s.keyGranted n k
  | none => s

/-- KEY_RING_WRITE (R145): the line is the one whose key write the arbiter grants. -/
def execKeyRingWrite (s : State) : Host.Outcome State Fault Refusal :=
  finish s (match s.grant with
    | some (.keyRecord n) => (s.charge (.keyRecord n)).keyServed n
    | _ => s)

/-- R111: a header write asked for alone is tested at its grant; it is made unless it would fall in the block of a SENDING
or SET story, and then it is dropped without a notice. -/
def State.headerGranted (s : State) (t : Nat) (g : Ring) : State :=
  let base := (s.term t).cfg.ring
  let s1 := s.setRing t { g with headerAsked := false }
  match s1.closedAmong (s1.storiesTouched base 4) with
  | _ :: _ => s1
  | [] => (s1.writeBytes base g.header).uncountedWrite base 4

/-- The header write of terminal `t` is served. -/
def State.headerServed (s : State) (t : Nat) : State :=
  match (s.term t).ring with
  | some g => s.headerGranted t g
  | none => s

/-- KEY_RING_HEADER_WRITE (R111, R144, R146). -/
def execKeyRingHeaderWrite (s : State) : Host.Outcome State Fault Refusal :=
  finish s (match s.grant with
    | some (.keyHeader n t) => (s.charge (.keyHeader n t)).headerServed t
    | _ => s)

/-- R146: a whole write of terminal `t`'s consumer field drains. -/
def State.ringConsumerDrained (s : State) (t v : Nat) : State :=
  match (s.term t).ring with
  | some g =>
    if s.enabled t = true then
      s.setRing t { g with consumer := v % 32, overrun := false, headerAsked := g.headerAsked || g.overrun }
    else s
  | none => s

end Sys2Proof.Machine
end

