-- ==== Sys2Proof/Machine/Flags.lean ====
section
/-! DEFINITION. The flags of the part: the 66 refused flags (R102, R106) and the three error flags of each line (R143). -/

namespace Sys2Proof.Machine

/-! ## Contexts and refused flags -/

/-- The kind of the latched context (R102). -/
inductive ContextKind where
  | system
  | terminal (t : Nat)
  | unknown
  deriving DecidableEq, Repr

/-- R102: the kind of the latched context, decided afresh at each entry. -/
def State.contextKind (s : State) : ContextKind :=
  if s.path.context = 0 then .system
  else if s.path.context ≤ 64 ∧ s.enabled s.path.context = true then .terminal s.path.context
  else .unknown

/-- The refused flag of a context (R106). -/
def State.refusedFlag (s : State) : ContextKind → Bool
  | .system => s.notices.refusedSystem
  | .terminal t => s.notices.refused.at1 false t
  | .unknown => s.notices.refusedUnknown

/-- R106, R108: a context's refused flag becomes `v`; the image that shows it is marked if it changes. -/
def State.setRefusedFlag (s : State) (c : ContextKind) (v : Bool) : State :=
  if s.refusedFlag c = v then s
  else match c with
    | .system => (s.withNotices { s.notices with refusedSystem := v }).mark .partState
    | .terminal t =>
      (s.withNotices { s.notices with refused := s.notices.refused.set1 t v }).mark (.terminal t)
    | .unknown => (s.withNotices { s.notices with refusedUnknown := v }).mark .partState

/-- The terminal field of a GUARD, IMAGE or BUSFORM notice: the latched context when it is 0 to 64 (R107). -/
def State.contextTerminal (s : State) : Option Nat := if s.path.context ≤ 64 then some s.path.context else none

/-! ## Line error flags -/

/-- R143: the three sticky flags. -/
inductive LineFlag where
  | error
  | overrun
  | brk
  deriving DecidableEq, Repr

/-- A flag of a line. -/
def Line.flag (l : Line) : LineFlag → Bool
  | .error => l.error
  | .overrun => l.overrun
  | .brk => l.brk

/-- A line with a flag set. -/
def Line.withFlag (l : Line) : LineFlag → Line
  | .error => { l with error := true }
  | .overrun => { l with overrun := true }
  | .brk => { l with brk := true }

/-- The enabled terminal on a line and drop (R132: at most one). -/
def State.terminalOn (s : State) (n drop : Nat) : Option Nat :=
  terminalNumbers.find? (fun t => s.enabled t && (s.term t).cfg.line == n && (s.term t).cfg.drop == drop)

/-- A real poll takes in what is received: the window is open or the answer runs (R137). In POLL it does not yet. -/
def Line.polling (l : Line) : Bool := l.tx == .wait || l.tx == .answer

/-- The terminal that a LINE notice names: the polled drop's during a poll, the DIRECT line's, or none (R143). In POLL it names
none: the poll counts here from the shift completion of its POLL frame (R137; DESIGN CHOICE, log entry 29). -/
def State.lineNoticeTerminal (s : State) (n : Nat) : Option Nat :=
  let l := s.line n
  match l.cfg.mode with
  | .direct => s.terminalOn n 0
  | .shared => if l.polling then l.pollPtr.bind (s.terminalOn n) else none

/-- R143: a line's flag is set; a LINE notice is written if it was clear. -/
def State.setLineFlag (s : State) (n : Nat) (f : LineFlag) (c : Cause) : State :=
  let l := s.line n
  if l.flag f then s
  else
    (s.setLine n (l.withFlag f)).notify
      { s.notice .line c with terminal := s.lineNoticeTerminal n, unit := some n }

end Sys2Proof.Machine
end

