-- ==== Sys2Proof/Machine/Lines.lean ====
section
/-! DEFINITION. Chapter 8, lines: rows on the wire (R133 to R135), polling (R136 to R139), receiving (R140 to R142) and
LINECLEAR (R143). -/

namespace Sys2Proof.Machine

/-! ## The transmitter (R133, R135, R136) -/

/-- The number of frames of a row (R133). -/
def rowFrames : LineMode → Nat
  | .direct => 82
  | .shared => 83

/-- Frame `k` of the 82 frames both modes send: ROWLOAD, the row number, the snapshot (R133, R179). -/
def rowByte (q : RowRec) (k : Nat) : Byte :=
  if k = 0 then 0x11#8 else if k = 1 then byteOf q.row else q.snapshot.getD (k - 2) 0#8

/-- R131: the parity bit of a frame, none under NONE: with it the ones are even in number under EVEN and odd under ODD. -/
def parityBits (p : Parity) (ones : Nat) : List Bool :=
  match p with
  | .off => []
  | .even => [ones % 2 == 1]
  | .odd => [ones % 2 == 0]

/-- R131: a frame on TXD, first bit first: the start bit, the data bits least significant first, the mark bit on a SHARED
line, the parity bit, the stop bits. -/
def LineCfg.bits (c : LineCfg) (mark : Bool) (data : Byte) : List Bool :=
  let carried := dataBits data ++ (if c.mode = .shared then [mark] else [])
  [false] ++ carried ++ parityBits c.parity (carried.count true) ++ List.replicate (if c.twoStop then 2 else 1) true

/-- A frame as the transmitter of a line in configuration `c` produces it. -/
def LineCfg.frame (c : LineCfg) (mark : Bool) (data : Byte) (kind : TxKind) : TxFrame :=
  ⟨mark, data, kind, c.bits mark data⟩

/-- What TXD is sending: the bits of the frame in the shift register, or the marking level (R131, R133). -/
def Line.txd (l : Line) : List Bool :=
  match l.shift with
  | some f => f.bits
  | none => [true]

/-- Frame `k` of a row (R133); on a SHARED line SELECT(drop) comes first. -/
def rowFrame (c : LineCfg) (drop : Nat) (q : RowRec) (k : Nat) : TxFrame :=
  match c.mode with
  | .direct => c.frame false (rowByte q k) (.row (k + 1 == 82))
  | .shared =>
    if k = 0 then c.frame true (byteOf (0x20 + drop)) (.row false)
    else c.frame false (rowByte q (k - 1)) (.row (k + 1 == 83))

/-- The transmitter enters ROW with the oldest record of the queue. -/
def Line.beginRow (l : Line) : Line := { l with tx := .row, rowPos := 0 }

/-- The line has at least one drop record. -/
def Line.hasDrops (l : Line) : Bool := l.drops.entries.any (fun d => d.isSome)

/-- R136: an UP drop is always eligible, a DOWN drop when its rest count is 7. -/
def dropEligible : Option Drop → Bool
  | none => false
  | some d => d.state == .up || decide (7 ≤ d.rest)

/-- R136: the first eligible drop after the poll pointer, in ascending order and wrapping from 3 to 0. -/
def Line.nextDrop (l : Line) : Option Nat :=
  ((List.range 4).map (fun i => (l.pollPtr.getD 3 + 1 + i) % 4)).find? (fun d => dropEligible (l.drops.at0 none d))

/-- R136: at a poll of `polled` (none for a vacant poll) the polled drop's rest count becomes 0 and that of every other
DOWN drop increases by 1, stopping at 7. -/
def restAfterPoll (polled : Option Nat) (d : Nat) : Option Drop → Option Drop
  | none => none
  | some r =>
    if polled = some d then some { r with rest := 0 }
    else if r.state = .down then some { r with rest := min 7 (r.rest + 1) }
    else some r

/-- The drop records after a poll. -/
def Line.restDrops (l : Line) (polled : Option Nat) : Table 4 (Option Drop) :=
  Table.build 4 (fun d => restAfterPoll polled d (l.drops.at0 none d))

/-- R135, R136: the poll step: a real poll of the next eligible drop, or a vacant poll; a SHARED line with no configured
drop stays IDLE. -/
def Line.pollStep (l : Line) : Line :=
  if l.hasDrops = false then { l with tx := .idle }
  else match l.nextDrop with
    | some d =>
      { l with tx := .poll, drops := l.restDrops (some d), pollPtr := some d,
               hold := some (l.cfg.frame true (byteOf (0x40 + d)) .poll) }
    | none => { l with tx := .vacant, drops := l.restDrops none }

/-- R135: where the transmitter goes after a row has departed. -/
def Line.afterRow (l : Line) : Line :=
  match l.cfg.mode with
  | .direct => if l.queue = [] then { l with tx := .idle } else l.beginRow
  | .shared => l.pollStep

/-- R135: where the transmitter goes when a poll, real or vacant, ends. -/
def Line.afterPoll (l : Line) : Line := if l.queue = [] then l.pollStep else l.beginRow

/-- R135: IDLE is left when a DIRECT line has a record, or a SHARED line a configured drop. -/
def Line.leaveIdle (l : Line) : Line :=
  if l.tx = .idle then
    match l.cfg.mode with
    | .direct => if l.queue = [] then l else l.beginRow
    | .shared => if l.hasDrops = true then l.pollStep else l
  else l

/-- R133: the next frame of the row is produced into the empty holding buffer. `dropOf` gives a terminal's drop. -/
def Line.produce (dropOf : Nat → Nat) (l : Line) : Line :=
  match l.tx, l.hold, l.queue with
  | .row, none, q :: _ =>
    if l.rowPos < rowFrames l.cfg.mode then
      { l with hold := some (rowFrame l.cfg (dropOf q.terminal) q l.rowPos), rowPos := l.rowPos + 1 }
    else l
  | _, _, _ => l

/-- R133: a frame moves to the empty shift register. -/
def Line.move (l : Line) : Line :=
  match l.hold, l.shift with
  | some f, none => { l with hold := none, shift := some f }
  | _, _ => l

/-- The transmitter of an active line after an event. -/
def Line.pump (dropOf : Nat → Nat) (l : Line) : Line := ((l.leaveIdle.produce dropOf).move).produce dropOf

/-- The drop of a terminal by the map in force. -/
def State.dropOf (s : State) (t : Nat) : Nat := (s.term t).cfg.drop

/-- Line `n` becomes `l`, and the transmitter goes on as far as it can in the same event if the line is active. -/
def State.runLine (s : State) (n : Nat) (l : Line) : State :=
  s.setLine n (if activeUnder s.part l.cfg = true then l.pump s.dropOf else l)

/-- R133, R135: what the shift completion of a frame does on an active line. -/
def Line.shifted (l : Line) : TxKind → Line
  | .row true => ({ l with queue := l.queue.tail } : Line).afterRow
  | .row false => l
  | .poll => { l with tx := .wait, answerFrames := 0, answerKeys := 0 }
  | .orphan => l

/-- LINE_SHIFT_COMPLETION (R133). On a line that is not active the shift register empties and nothing follows. -/
def execLineShiftCompletion (n : Fin 16) (s : State) : Host.Outcome State Fault Refusal :=
  finish s (
    let l := s.line n.val
    match l.shift with
    | none => s
    | some f =>
      let l1 : Line := { l with shift := none }
      if s.lineActive n.val = true then s.runLine n.val (l1.shifted f.kind) else s.setLine n.val l1)

/-- VACANT_POLL_END (R135, R136). -/
def execVacantPollEnd (n : Fin 16) (s : State) : Host.Outcome State Fault Refusal :=
  finish s (
    if s.lineActive n.val = true ∧ (s.line n.val).tx = .vacant then s.runLine n.val (s.line n.val).afterPoll else s)

/-! ## The end of a real poll (R137, R138) -/

/-- R138: the polled drop's record after an answered or a missed poll. -/
def Drop.polled (d : Drop) (answered : Bool) : Drop :=
  match d.state, answered with
  | .up, true => { d with miss := 0 }
  | .down, true => { d with state := .up, miss := 0 }
  | .up, false => if 3 ≤ d.miss + 1 then { d with state := .down, miss := d.miss + 1, rest := 0 } else { d with miss := d.miss + 1 }
  | .down, false => d

/-- R138: the DROP notice and the repaint when the drop's state changed. -/
def State.dropChanged (s : State) (n drop : Nat) (before after : Drop) : State :=
  if before.state = after.state then s
  else
    let t := s.terminalOn n drop
    let c : Cause := if after.state = .up then .up else .down
    let s1 := s.notify { s.notice .drop c with terminal := t, unit := some n }
    match after.state, t with
    | .up, some t => s1.markAllDirty t
    | _, _ => s1

/-- R137, R138: the end of a real poll, one event: the drop record, its notice, and the transmitter. -/
def State.endPoll (s : State) (n : Nat) (answered : Bool) : State :=
  let l := s.line n
  match l.pollPtr with
  | none => s
  | some d =>
    match l.drops.at0 none d with
    | none => s.runLine n l.afterPoll
    | some r =>
      let r' := r.polled answered
      (s.dropChanged n d r r').runLine n ({ l with drops := l.drops.set0 d (some r') } : Line).afterPoll

/-- ANSWER_WINDOW_EXPIRY (R137): no start bit was detected in the window; the poll is missed. -/
def execAnswerWindowExpiry (n : Fin 16) (s : State) : Host.Outcome State Fault Refusal :=
  finish s (
    if s.lineActive n.val = true ∧ (s.line n.val).tx = .wait then s.endPoll n.val false else s)

/-- ANSWER_GAP_EXPIRY (R137): 4 frame times have passed after an answer frame without the start of another. -/
def execAnswerGapExpiry (n : Fin 16) (s : State) : Host.Outcome State Fault Refusal :=
  finish s (
    let l := s.line n.val
    if s.lineActive n.val = true ∧ l.tx = .answer ∧ l.rx = .looking ∧ 0 < l.answerFrames then
      (s.setLineFlag n.val .error .answer).endPoll n.val true
    else s)

/-! ## Receiving (R140 to R142) -/

/-- A start bit is detected: in the answer window it begins the answer (R137); the receiver notes whether the
transmitter was in WAIT or ANSWER (R141). -/
def Line.startBit (l : Line) : Line :=
  match l.rx with
  | .looking => { l with rx := .frame l.polling, tx := if l.tx = .wait then .answer else l.tx }
  | .frame _ => l
  | .spacing _ => l
  | .resync => l

/-- START_BIT_DETECT (R137, R140). -/
def execStartBitDetect (n : Fin 16) (s : State) : Host.Outcome State Fault Refusal :=
  finish s (if s.lineActive n.val = true then s.setLine n.val (s.line n.val).startBit else s)

/-- R140: what a completed frame is. -/
inductive FrameVerdict where
  | spacing
  | parityError
  | framingError
  | good
  deriving DecidableEq, Repr

/-- The bits of a frame that the line's framing has: data, mark on SHARED lines, parity unless NONE (R131). -/
def frameOnes (c : LineCfg) (f : RxFrame) : Nat :=
  (List.range 8).countP (fun i => f.data.getLsbD i) + (if c.mode = .shared then (if f.mark then 1 else 0) else 0)
    + (if c.parity = .off then 0 else (if f.parity then 1 else 0))

/-- R131: the number of ones among the data bits, the mark bit and the parity bit is even under EVEN and odd under ODD. -/
def parityWrong (c : LineCfg) (f : RxFrame) : Bool :=
  match c.parity with
  | .off => false
  | .even => frameOnes c f % 2 == 1
  | .odd => frameOnes c f % 2 == 0

/-- Every stop bit is at the marking level. -/
def stopGood (c : LineCfg) (f : RxFrame) : Bool := f.stop1 && (!c.twoStop || f.stop2)

/-- Every bit of the frame is at the spacing level. -/
def allSpacing (c : LineCfg) (f : RxFrame) : Bool :=
  frameOnes c f == 0 && !f.stop1 && (!c.twoStop || !f.stop2)

/-- R140: the frame is judged at its last stop bit. A frame that is all spacing waits to become a framing error or a break
whatever its parity would be; of two errors parity is the one reported (DEDUCED, log entry 9). -/
def judgeFrame (c : LineCfg) (f : RxFrame) : FrameVerdict :=
  if allSpacing c f then .spacing
  else if parityWrong c f then .parityError
  else if !stopGood c f then .framingError
  else .good

/-- R142: a key or break is delivered to the line's receive buffer, or lost by overrun when it is full. -/
def State.deliverKey (s : State) (n t : Nat) (k : KeyKind) (c : Byte) : State :=
  match (s.line n).buffer with
  | none => s.setLine n { s.line n with buffer := some ⟨t, k, c⟩ }
  | some _ => s.setLineFlag n .overrun .overrun

/-- The terminal polled by a SHARED line. -/
def State.polledTerminal (s : State) (n : Nat) : Option Nat := (s.line n).pollPtr.bind (s.terminalOn n)

/-- R137: a frame of the answer has completed. -/
def State.countAnswerFrame (s : State) (n : Nat) (isKey : Bool) : State :=
  let l := s.line n
  s.setLine n { l with answerFrames := l.answerFrames + 1, answerKeys := l.answerKeys + (if isKey then 1 else 0),
                       tx := .answer }

/-- R137: a good frame of the answer: an END ends the poll as answered, a key goes to the receive buffer, and the 17th key
is discarded and ends the poll with ERROR set. -/
def State.answerFrame (s : State) (n : Nat) (f : RxFrame) : State :=
  if f.mark = true then (s.countAnswerFrame n false).endPoll n true
  else if 16 ≤ (s.line n).answerKeys then
    ((s.countAnswerFrame n true).setLineFlag n .error .answer).endPoll n true
  else
    let s1 := s.countAnswerFrame n true
    match s1.polledTerminal n with
    | some t => s1.deliverKey n t .key f.data
    | none => s1

/-- R140, R141: the flag and cause of a frame that is not good. -/
def verdictCause : FrameVerdict → Cause
  | .parityError => .parity
  | .framingError => .framing
  | .spacing => .framing
  | .good => .unsolicited

/-- R140, R141: a frame that has completed and is judged, on a line whose receiver is looking again. `solicited` says
that its start bit was detected in WAIT or ANSWER (DEDUCED, log entry 16). -/
def State.routeFrame (s : State) (n : Nat) (solicited : Bool) (v : FrameVerdict) (f : RxFrame) : State :=
  match (s.line n).cfg.mode with
  | .direct =>
    if v = .good then
      match s.terminalOn n 0 with
      | some t => s.deliverKey n t .key f.data
      | none => s
    else s.setLineFlag n .error (verdictCause v)
  | .shared =>
    if solicited && (s.line n).polling then
      if v = .good then s.answerFrame n f
      else (s.countAnswerFrame n false).setLineFlag n .error (verdictCause v)
    else s.setLineFlag n .error (verdictCause v)

/-- A frame completes whose start bit was detected with `solicited` (R140). -/
def State.completeFrame (s : State) (n : Nat) (solicited : Bool) (f : RxFrame) : State :=
  let v := judgeFrame (s.line n).cfg f
  if v = .spacing then s.setLine n { s.line n with rx := .spacing solicited }
  else (s.setLine n { s.line n with rx := .looking }).routeFrame n solicited v f

/-- RECEIVE_FRAME (R140). A frame that comes while the receiver is looking for a start bit had its start bit detected just
before (log entry 10). -/
def execReceiveFrame (n : Fin 16) (f : RxFrame) (s : State) : Host.Outcome State Fault Refusal :=
  finish s (
    if s.lineActive n.val = true then
      let s1 := s.setLine n.val (s.line n.val).startBit
      match (s1.line n.val).rx with
      | .frame sol => s1.completeFrame n.val sol f
      | .looking => s
      | .spacing _ => s
      | .resync => s
    else s)

/-- SPACING_FRAME_RETURN_TO_MARKING (R140): the all-spacing frame becomes a framing error. -/
def execSpacingFrameReturnToMarking (n : Fin 16) (s : State) : Host.Outcome State Fault Refusal :=
  finish s (
    if s.lineActive n.val = true then
      match (s.line n.val).rx with
      | .spacing sol =>
        (s.setLine n.val { s.line n.val with rx := .looking }).routeFrame n.val sol .framingError ⟨0#8, false, false, false, false⟩
      | .frame _ => s
      | .looking => s
      | .resync => s
    else s)

/-- R140: a break on an active line; the receiver then resynchronises. On a SHARED line it ends a poll in progress, as
answered if a frame had completed before it (R137; DEDUCED, log entry 17). -/
def State.breakOn (s : State) (n : Nat) : State :=
  let s1 := s.setLine n { s.line n with rx := .resync }
  match (s.line n).cfg.mode with
  | .direct =>
    match s1.terminalOn n 0 with
    | some t => s1.deliverKey n t .brk 0#8
    | none => s1
  | .shared =>
    let s2 := s1.setLineFlag n .brk .brk
    if (s.line n).polling = true then s2.endPoll n (decide (0 < (s.line n).answerFrames)) else s2

/-- BREAK_DETECT (R140). A break that comes while the receiver is looking or in a frame had its start bit and its
all-spacing frame just before (log entry 10); none comes while the receiver resynchronises. -/
def execBreakDetect (n : Fin 16) (s : State) : Host.Outcome State Fault Refusal :=
  finish s (
    if s.lineActive n.val = true ∧ (s.line n.val).rx ≠ .resync then
      (s.setLine n.val (s.line n.val).startBit).breakOn n.val
    else s)

/-- RESYNC_END (R140): RXD has been marking for one frame time. -/
def execResyncEnd (n : Fin 16) (s : State) : Host.Outcome State Fault Refusal :=
  finish s (
    if (s.line n.val).rx = .resync then s.setLine n.val { s.line n.val with rx := .looking } else s)

/-! ## LINECLEAR (R143) -/

/-- LINECLEAR (line), R143. -/
def doLineclear (r : Request) (s : State) : State :=
  let n := r.u8 8
  let l := s.line n
  if s.isSlotOrSystem r.requester = false then s.answer .rank 0
  else if 15 < n then s.answer .badArg 0
  else
    ((s.setLine n { l with error := false, overrun := false, brk := false }).mark (.line n)).answer .done
      (bitOf l.error 1 + bitOf l.overrun 2 + bitOf l.brk 4)

/-- LINECLEAR: the request code is 20 (R174). -/
def execLineclear (s : State) : Host.Outcome State Fault Refusal := finish s (s.dispatch (· == 20) doLineclear)

end Sys2Proof.Machine
end

