-- ==== Sys2Proof/Machine/Scanner.lean ====
section
/-! DEFINITION. Chapter 9: the screen scanner's visits and takes (R153 to R156). -/

namespace Sys2Proof.Machine

/-- R153: on a SHARED line the terminal's drop is UP; a terminal on a DIRECT line is never DOWN. -/
def State.dropIsUp (s : State) (t : Nat) : Bool :=
  let c := (s.term t).cfg
  match (s.line c.line).cfg.mode with
  | .direct => true
  | .shared => match (s.line c.line).drops.at0 none c.drop with
    | some d => d.state == .up
    | none => false

/-- The row queue of the terminal's line. -/
def State.rowQueueOf (s : State) (t : Nat) : List RowRec := (s.line (s.term t).cfg.line).queue

/-- R153: a visit to the terminal can begin. -/
def State.eligible (s : State) (t : Nat) : Bool :=
  s.enabled t && s.lineActive (s.term t).cfg.line && s.dropIsUp t && (s.term t).dirtyCount != 0
    && decide ((s.rowQueueOf t).length < 4)

/-- R153: the first eligible terminal at or after the scan position, wrapping from 64 to 1. -/
def State.nextTerminal (s : State) : Option Nat :=
  ((List.range 64).map (fun i => (s.scanner.pos - 1 + i) % 64 + 1)).find? s.eligible

/-- R154: the slice of a visit to `t`. -/
def State.sliceFor (s : State) (t : Nat) : Nat :=
  if s.deadlineTerminal t = true then s.scanner.slice2 else s.scanner.slice1

/-- R154: the visit ends: as many takes as the slice, an empty dirty set, or a full row queue. -/
def State.visitOver (s : State) (v : Visit) : Bool :=
  decide (v.slice ≤ v.taken) || (s.term v.terminal).dirtyCount == 0 || decide (4 ≤ (s.rowQueueOf v.terminal).length)

/-- R154: the scan position becomes the terminal after `t`, and the scanner is free. -/
def State.endVisit (s : State) (t : Nat) : State :=
  s.withScanner { s.scanner with pos := t % 64 + 1, visit := none, take := none }

/-- R155, R156: row `r` of terminal `t` leaves the dirty set and its record joins the row queue of the line, which begins
to send it if it is IDLE. -/
def State.takeRow (s : State) (t r : Nat) (snapshot : List Byte) : State :=
  let s1 := s.setTerm t { s.term t with dirty := (s.term t).dirty.set0 r false }
  let n := (s1.term t).cfg.line
  s1.runLine n { s1.line n with queue := (s1.line n).queue ++ [⟨t, r, snapshot⟩] }

/-- R156: a take of row 23: the status row is composed and is the snapshot. -/
def State.takeStatusRow (s : State) (t : Nat) : State :=
  let text := s.statusRow t
  (s.setTerm t { s.term t with lastTaken := some text }).takeRow t 23 text

/-- R154: the lowest-numbered dirty row. -/
def Terminal.lowestDirty (r : Terminal) : Option Nat := (List.range 24).find? (fun k => r.dirty.at0 false k)

/-- R155: the take of the lowest-numbered dirty row asks for its row read. -/
def State.askRow (s : State) (v : Visit) : State :=
  match (s.term v.terminal).lowestDirty with
  | some r =>
    s.withScanner { s.scanner with
        visit := some v
        take := some ⟨v.terminal, r, (s.term v.terminal).cfg.screen + 80 * r, false⟩ }
  | none => s.endVisit v.terminal

/-- R154: the visit goes on: row 23 first, made at once (DEDUCED, log entry 14); then a row read, unless the visit is over. -/
def State.visitOn (s : State) (v : Visit) : State :=
  if s.visitOver v = true then s.endVisit v.terminal
  else if (s.term v.terminal).dirty.at0 false 23 = true then
    let s1 := s.takeStatusRow v.terminal
    let v1 := { v with taken := v.taken + 1 }
    if s1.visitOver v1 = true then s1.endVisit v1.terminal else s1.askRow v1
  else s.askRow v

/-- SCAN_VISIT (R153, R154, log entry 12): the free scanner begins a visit to the first eligible terminal and fixes its slice. -/
def execScanVisit (s : State) : Host.Outcome State Fault Refusal :=
  finish s (
    if s.part = .running ∧ s.scanner.visit = none then
      match s.nextTerminal with
      | some t => s.visitOn ⟨t, s.sliceFor t, 0⟩
      | none => s
    else s)

/-- R155: the take is abandoned, which ends the visit (DEDUCED, log entry 19). -/
def State.abandoned (s : State) (k : Take) : Bool :=
  !s.enabled k.terminal || !s.lineActive (s.term k.terminal).cfg.line || !s.dropIsUp k.terminal || k.stale

/-- R155: the end of the row read is the take. -/
def State.rowReadDone (s : State) (k : Take) (v : Visit) : State :=
  let s1 : State := s.withScanner { s.scanner with take := none }
  if s.abandoned k = true then s1.endVisit v.terminal
  else (s1.takeRow k.terminal k.row (s.readBytes k.addr 80)).visitOn { v with taken := v.taken + 1 }

/-- ROW_TAKE (R155). -/
def execRowTake (s : State) : Host.Outcome State Fault Refusal :=
  finish s (s.serve .rowRead (fun s' =>
    match s'.scanner.take, s'.scanner.visit with
    | some k, some v => s'.rowReadDone k v
    | _, _ => s'))

end Sys2Proof.Machine
end

