-- ==== Sys2Proof/Machine/Reconfigure.lean ====
section
/-! DEFINITION. What the completion event of a successful RELOAD does to the lines, the key rings, the dirty sets and the
scanner (R132, R134, R144, R152), and what the entry into PASS-THROUGH does to every block (R169). -/

namespace Sys2Proof.Machine

/-! ## The old and the new configuration, line by line (R132) -/

/-- The configuration of line `n` that a RELOAD brings. -/
def LoadedConfig.line (c : LoadedConfig) (n : Nat) : LineCfg := c.lines.at0 LineCfg.off n

/-- The terminal-map record of terminal `t` that a RELOAD brings. -/
def LoadedConfig.term (c : LoadedConfig) (t : Nat) : TermCfg := c.terms.at1 TermCfg.off t

/-- Mode, divisor, parity or stop bits differ. -/
def LineCfg.differs (a b : LineCfg) : Bool :=
  a.mode != b.mode || a.divisor != b.divisor || a.parity != b.parity || a.twoStop != b.twoStop

/-- R132: what becomes of a line in the completion event. A restarted line is `stopped` and `started`. -/
structure LineChange where
  stopped : Bool
  started : Bool
  stays : Bool
  deriving DecidableEq, Repr

/-- R132: the change of line `n`. -/
def State.lineChange (s : State) (c : LoadedConfig) (n : Nat) : LineChange :=
  let was := s.lineActive n
  let is := activeUnder .running (c.line n)
  let restarted := (s.line n).cfg.differs (c.line n)
  { stopped := was && (!is || restarted), started := is && (!was || restarted), stays := was && is && !restarted }

/-- The terminal was enabled on line `n` and is no longer, or is on another line or drop (R132). -/
def State.leavesLine (s : State) (c : LoadedConfig) (n t : Nat) : Bool :=
  let a := (s.term t).cfg
  let b := c.term t
  a.enabled && a.line == n && !(b.enabled && b.line == n && b.drop == a.drop)

/-- The terminal is enabled on line `n` after the RELOAD and was not, or was on another line or drop (R132). -/
def State.joinsLine (s : State) (c : LoadedConfig) (n t : Nat) : Bool :=
  let a := (s.term t).cfg
  let b := c.term t
  b.enabled && b.line == n && !(a.enabled && a.line == n && b.drop == a.drop)

/-- The enabled terminal that the RELOAD puts on a line and drop. -/
def LoadedConfig.terminalOn (c : LoadedConfig) (n drop : Nat) : Option Nat :=
  terminalNumbers.find? (fun t => (c.term t).enabled && (c.term t).line == n && (c.term t).drop == drop)

/-- The row records that leave the row queue of line `n` in the completion event (R132, R134). -/
def State.discardedRows (s : State) (c : LoadedConfig) (n : Nat) : List RowRec :=
  let k := s.lineChange c n
  if k.stopped then (s.line n).queue
  else if k.stays then (s.line n).queue.filter (fun q => s.leavesLine c n q.terminal)
  else []

/-- R132: a drop that begins: UP with miss count 0 and rest count 0. -/
def Drop.fresh : Drop := ⟨.up, 0, 0⟩

/-- R132, R139, R147: the record of drop `d` of line `n` after the RELOAD. A line that is not active keeps the record of a
drop whose terminal stays, and gets no new one (DEDUCED, log entry 18). -/
def State.dropAfter (s : State) (c : LoadedConfig) (n d : Nat) : Option Drop :=
  match (c.line n).mode, c.terminalOn n d with
  | .direct, _ => none
  | .shared, none => none
  | .shared, some t =>
    let k := s.lineChange c n
    if k.started then some Drop.fresh
    else if s.terminalOn n d = some t then (s.line n).drops.at0 none d
    else if k.stays then some Drop.fresh
    else none

/-- R132: a line that stops (its receiver: DEDUCED, log entry 20): its transmitter ends with the frame in the shift register,
its queue and buffer empty. -/
def Line.stop (l : Line) : Line :=
  { l with
    tx := .idle, rowPos := 0, hold := none, shift := l.shift.map (fun f => { f with kind := .orphan }), queue := [],
    rx := .looking, buffer := none, answerFrames := 0, answerKeys := 0 }

/-- R132: the transmitter of a line that becomes active starts IDLE. -/
def Line.idled (l : Line) : Line := { l with tx := .idle, rowPos := 0, hold := none }

/-- A row or a poll is given up: the frame in the shift register finishes, the next frame is not sent (R132). -/
def Line.giveUp (l : Line) : Line :=
  { l with hold := none, shift := l.shift.map (fun f => { f with kind := .orphan }), rowPos := 0 }

/-- A poll, not a vacant one, that a RELOAD gives up with its drop's terminal (R132, R139): in WAIT or ANSWER it is in progress.
R137 starts it only at the shift completion of its POLL frame; that it is given up in POLL too, while that frame waits or is being
sent, is the model's choice (DESIGN CHOICE, log entry 29). -/
def Line.inPoll (l : Line) : Bool := l.tx == .poll || l.polling

/-- R132: a line that stays active after terminals have left it: `left` are the terminals that left, `lostDrop` says that
the polled drop's terminal is one of them. `rowLost`: the row being sent was one of theirs. Of "the next row or poll" that R132
lets follow such a row, the one is taken that R135 gives after a row that departs: on a SHARED line the poll step (DESIGN
CHOICE, log entry 28). -/
def Line.afterLeaving (l : Line) (left : Nat → Bool) (rowLost lostDrop : Bool) : Line :=
  let l1 : Line := { l with
    queue := l.queue.filter (fun q => !left q.terminal)
    buffer := l.buffer.filter (fun k => !left k.terminal) }
  if rowLost then l1.giveUp.afterRow
  else if lostDrop then l1.giveUp.afterPoll
  else l1

/-- R132: line `n` after the completion event, before its transmitter goes on. The error flags are kept. -/
def State.lineAfter (s : State) (c : LoadedConfig) (n : Nat) : Line :=
  let l := s.line n
  let k := s.lineChange c n
  let left := s.leavesLine c n
  let rowLost := l.tx == .row && (match l.queue with
    | q :: _ => left q.terminal
    | [] => false)
  let lostDrop := l.inPoll && (match l.pollPtr.bind (s.terminalOn n) with
    | some t => left t
    | none => false)
  let l1 := if k.stopped then l.stop else if k.started then l.idled else l
  let l2 : Line := { l1 with
    cfg := c.line n
    drops := Table.build 4 (s.dropAfter c n)
    pollPtr := match (c.line n).mode with
      | .direct => none
      | .shared => if k.started then some 3 else l1.pollPtr }
  if k.stays then l2.afterLeaving left rowLost lostDrop else l2

/-! ## Terminals (R144, R149, R152) -/

/-- R144: the ring state of terminal `t` after the RELOAD. -/
def State.ringAfter (s : State) (c : LoadedConfig) (t : Nat) : Option Ring :=
  let a := (s.term t).cfg
  let b := c.term t
  if b.enabled = false then none
  else if a.enabled = true ∧ a.ring = b.ring then (s.term t).ring
  else some ⟨0, 0, false, true⟩

/-- R132, R152: all 24 rows of terminal `t` are marked: its line becomes active, it joins a line that stays active, or its
screen buffer base changes while it stays enabled (DEDUCED, log entry 21). -/
def State.repaints (s : State) (c : LoadedConfig) (t : Nat) : Bool :=
  let a := (s.term t).cfg
  let b := c.term t
  let k := s.lineChange c b.line
  b.enabled && (k.started || (k.stays && s.joinsLine c b.line t) || (a.enabled && a.screen != b.screen))

/-- R134, R152: row `r` of terminal `t` is dirty after the completion event. -/
def State.dirtyAfter (s : State) (c : LoadedConfig) (t r : Nat) : Bool :=
  (c.term t).enabled
    && (s.repaints c t || (s.term t).dirty.at0 false r
      || lineNumbers.any (fun n => (s.discardedRows c n).any (fun q => q.terminal == t && q.row == r)))

/-- R152: the last-taken status text after the completion event. -/
def State.lastTakenAfter (s : State) (c : LoadedConfig) (t : Nat) : Option (List Byte) :=
  if (c.term t).enabled && s.enabled t then (s.term t).lastTaken else none

/-- Terminal `t` after the completion event. -/
def State.termAfter (s : State) (c : LoadedConfig) (t : Nat) : Terminal where
  cfg := c.term t
  ring := s.ringAfter c t
  dirty := Table.build 24 (s.dirtyAfter c t)
  lastTaken := s.lastTakenAfter c t

/-! ## The new configuration takes effect (R168) -/

/-- R152, R155: the scanner after the completion event: a row read asked for before it will be abandoned. -/
def Scanner.reloaded (v : Scanner) (c : LoadedConfig) : Scanner :=
  { v with pos := c.start, slice1 := c.slice1, slice2 := c.slice2, start := c.start,
           take := v.take.map (fun k => { k with stale := true }) }

/-- An active line's transmitter goes on in the completion event. -/
def pumpIfActive (dropOf : Nat → Nat) (l : Line) : Line := if activeUnder .running l.cfg then l.pump dropOf else l

/-- R168, item 1: terminal map, lines, link, slices, start terminal and G take effect. Every image is marked by item 3 of
the same event. -/
def State.applyConfig (s : State) (c : LoadedConfig) : State :=
  let s1 := s.withLines (Table.build 16 (fun n => pumpIfActive (fun t => (c.term t).drop) (s.lineAfter c n)))
  let s2 := s1.withTerms (Table.build 64 (fun i => s.termAfter c (i + 1)))
  let s3 := s2.withScanner (s2.scanner.reloaded c)
  let s4 := s3.withLink { s3.link with divisor := c.linkDivisor, timeout := c.linkTimeout }
  s4.withClock { s4.clock with grace := c.grace }

/-! ## Entry into PASS-THROUGH (R169) -/

/-- R37: the stories that join the recount list: registered, not KILLED and IDLE, ascending. -/
def State.idleStories (s : State) : List Nat :=
  s.storiesWhere (fun r => r.registered && r.state != .killed && r.recount == .idle)

/-- R129: the link HALTED: the frame in the shift register is shifted out, everything else of the send is given up. -/
def Link.halt (l : Link) : Link := { l with state := .halted, hold := none, ctx := none }

/-- R147: a line that PASS-THROUGH stops: the row queue, the drop records and the flags stay. -/
def Line.halt (l : Line) : Line :=
  { l with
    tx := .idle, rowPos := 0, hold := none, shift := l.shift.map (fun f => { f with kind := .orphan }), rx := .looking,
    buffer := none, answerFrames := 0, answerKeys := 0 }

/-- R147: header writes asked for and not granted are dropped. -/
def Terminal.halt (r : Terminal) : Terminal := { r with ring := r.ring.map (fun g => { g with headerAsked := false }) }

/-- R147: a line stops, and its image is marked if what it shows changes. -/
def State.haltLine (s : State) (n : Nat) : State := s.setLine n (s.line n).halt

/-- R169: the blocks stop. The line status images are compared under the old part state. -/
def State.haltBlocks (s : State) : State :=
  let s1 := lineNumbers.foldl State.haltLine s
  let s2 := s1.idleStories.foldl (fun s n => s.joinRecount n none) s1
  let s3 := (s2.withLink s2.link.halt).withTerms (s2.terms.map Terminal.halt)
  s3.withScanner { s3.scanner with visit := none, take := none }

/-- R169: the validation event that enters PASS-THROUGH. The outcome BAD_ARG follows R162. -/
def State.enterPassThrough (s : State) : State :=
  let s1 := ((s.haltBlocks.withPart .passThrough).withCause .badBase).mark .partState
  (s1.notify (s1.notice .pass .badBase)).driveAttn.answer .badArg 0

end Sys2Proof.Machine
end

