-- ==== Sys2Proof/Machine/Control.lean ====
section
/-! DEFINITION. Chapter 10: RELOAD, the request engine's writes, the notice writer and the image writing. -/

namespace Sys2Proof.Machine

/-! ## RELOAD (R166) -/

/-- RELOAD, no arguments (R166). -/
def doReload (r : Request) (s : State) : State :=
  if r.requester ≠ 0 then s.answer .rank 0
  else if s.link.state = .sending then s.answer .busy 0
  else s.withEngine { s.engine with progress := some (.reloading []) }

/-- RELOAD: the request code is 21 (R174). -/
def execReload (s : State) : Host.Outcome State Fault Refusal := finish s (s.dispatch (· == kindReload) doReload)

/-! ## The configuration as read (R173) -/

/-- The number of bytes a RELOAD reads: control block and terminal map (R166). -/
def reloadBytes : Nat := 1280

/-- The address of the piece that begins at byte `k` of the 1,280 (R160, R166). -/
def reloadPieceAddr (base k : Nat) : Nat := if k < 256 then base + k else base + 0x0A00 + (k - 256)

/-- A field of `w` bytes at offset `o` of what the RELOAD has read. -/
def fieldAt (bytes : List Byte) (o w : Nat) : Nat := leNat ((bytes.drop o).take w)

/-- R173: where the configuration of line `n` stands in the control block. -/
def lineRecordAt (n : Nat) : Nat := 0x40 + 8 * n

/-- R173: where the record of terminal `t` stands among the bytes read. -/
def termRecordAt (t : Nat) : Nat := 256 + 16 * (t - 1)

/-- R173: the relocation word. -/
def relocationWord (bytes : List Byte) : Nat := fieldAt bytes 0 4

/-- R173: the parity that a code names; checked by `badLine` before it is used. -/
def parityOfCode (k : Nat) : Parity := if k = 1 then .even else if k = 2 then .odd else .off

/-- R173: the rank that a code names; checked by `badTerm` before it is used. -/
def rankOfCode (k : Nat) : Rank := if k = 3 then .slot else if k = 2 then .editor else .reporter

/-- R173: the configuration of line `n`, clamped (R167). -/
def lineCfgOf (bytes : List Byte) (n : Nat) : LineCfg where
  enabled := fieldAt bytes (lineRecordAt n) 1 != 0
  mode := if fieldAt bytes (lineRecordAt n + 1) 1 = 1 then .shared else .direct
  parity := parityOfCode (fieldAt bytes (lineRecordAt n + 2) 1)
  twoStop := clampTo 1 2 (fieldAt bytes (lineRecordAt n + 3) 1) == 2
  divisor := clampTo 0 1023 (fieldAt bytes (lineRecordAt n + 4) 2)

/-- R173: the record of terminal `t`; one that is not enabled is not examined further. -/
def termCfgOf (bytes : List Byte) (t : Nat) : TermCfg :=
  if fieldAt bytes (termRecordAt t) 1 = 0 then TermCfg.off
  else
    { enabled := true
      line := fieldAt bytes (termRecordAt t + 1) 1
      drop := fieldAt bytes (termRecordAt t + 2) 1
      rank := rankOfCode (fieldAt bytes (termRecordAt t + 3) 1)
      basket := fieldAt bytes (termRecordAt t + 4) 1
      screen := fieldAt bytes (termRecordAt t + 8) 4
      ring := fieldAt bytes (termRecordAt t + 12) 4 }

/-- R167, R173: the configuration that the bytes give, clamped. -/
def configOf (bytes : List Byte) : LoadedConfig where
  linkDivisor := clampTo 0 1023 (fieldAt bytes 0x04 2)
  linkTimeout := fieldAt bytes 0x06 1
  grace := clampTo 1 30 (fieldAt bytes 0x07 1)
  slice1 := clampTo 1 4 (fieldAt bytes 0x08 1)
  slice2 := clampTo 1 4 (fieldAt bytes 0x09 1)
  start := clampTo 1 64 (fieldAt bytes 0x0A 1)
  lines := Table.build 16 (lineCfgOf bytes)
  terms := Table.build 64 (fun i => termCfgOf bytes (i + 1))

/-! ## Validation (R167) -/

/-- 1 if the value lies outside the range, and so is clamped. -/
def clampCount (lo hi v : Nat) : Nat := if lo ≤ v ∧ v ≤ hi then 0 else 1

/-- The number of values clamped in line `n`'s configuration: its stop bits and its divisor. -/
def lineClamps (bytes : List Byte) (n : Nat) : Nat :=
  clampCount 1 2 (fieldAt bytes (lineRecordAt n + 3) 1) + clampCount 0 1023 (fieldAt bytes (lineRecordAt n + 4) 2)

/-- R167: the number of values clamped. -/
def clampsOf (bytes : List Byte) : Nat :=
  clampCount 0 1023 (fieldAt bytes 0x04 2) + clampCount 1 30 (fieldAt bytes 0x07 1)
    + clampCount 1 4 (fieldAt bytes 0x08 1) + clampCount 1 4 (fieldAt bytes 0x09 1)
    + clampCount 1 64 (fieldAt bytes 0x0A 1) + (lineNumbers.map (lineClamps bytes)).sum

/-- R167: the relocation word is not a multiple of 64 KiB, or is 16 MiB or above. -/
def relocationUnusable (w : Nat) : Bool := w % controlAreaSize != 0 || decide (addressSpace ≤ w)

/-- R167: the new base that the word names, or none for no move. -/
def State.newBase (s : State) (w : Nat) : Option Nat := if w = 0 ∨ w = s.base then none else some w

/-- R167: line `n`'s mode or parity names none of its values. -/
def badLine (bytes : List Byte) (n : Nat) : Bool :=
  decide (1 < fieldAt bytes (lineRecordAt n + 1) 1) || decide (2 < fieldAt bytes (lineRecordAt n + 2) 1)

/-- R167: a structural error of an enabled terminal's record by itself, with the control area at `base`. -/
def badTerm (bytes : List Byte) (c : LoadedConfig) (base t : Nat) : Bool :=
  let r := c.term t
  let rank := fieldAt bytes (termRecordAt t + 3) 1
  r.enabled &&
    (((c.line r.line).mode == .direct && r.drop != 0) || decide (15 < r.line) || decide (3 < r.drop)
      || !validBasket r.basket || rank == 0 || decide (3 < rank)
      || r.screen % 16 != 0 || decide (addressSpace < r.screen + 1840)
      || r.ring % 4 != 0 || decide (addressSpace < r.ring + 68)
      || rangesOverlap r.screen 1840 base controlAreaSize || rangesOverlap r.ring 68 base controlAreaSize)

/-- R167: two enabled terminals with the same line and drop. -/
def clash (c : LoadedConfig) : Bool :=
  terminalNumbers.any (fun t => terminalNumbers.any (fun u =>
    decide (t < u) && (c.term t).enabled && (c.term u).enabled && (c.term t).line == (c.term u).line
      && (c.term t).drop == (c.term u).drop))

/-- R167: the 64 KiB at a new base overlaps the text block of a registered story. -/
def State.baseOverText (s : State) (base : Nat) : Bool :=
  !(s.storiesWhere (fun r => r.registered && rangesOverlap base controlAreaSize r.base (256 * r.capacity))).isEmpty

/-- R167, test 2: the structural errors. -/
def State.structuralError (s : State) (bytes : List Byte) : Bool :=
  let c := configOf bytes
  let move := s.newBase (relocationWord bytes)
  clash c || terminalNumbers.any (badTerm bytes c (move.getD s.base)) || lineNumbers.any (badLine bytes)
    || (match move with
      | some b => s.baseOverText b
      | none => false)

/-- R167: the validation event. -/
def State.validate (s : State) (bytes : List Byte) : State :=
  let done := fun (o : ReqOutcome) (note : Nat) (after : AfterOutcome) =>
    (s.withEngine { s.engine with progress := some (.answered o note after) })
  if relocationUnusable (relocationWord bytes) = true then s.enterPassThrough
  else if s.structuralError bytes = true then done .badConfig 0 .badConfig
  else
    done (if clampsOf bytes = 0 then .done else .clamped) (clampsOf bytes)
      (.configured (configOf bytes) (s.newBase (relocationWord bytes)))

/-- R166, R167: a piece of the RELOAD is read as memory stands; the 80th is the validation event. -/
def State.reloadPiece (s : State) (bytes : List Byte) : State :=
  let bytes' := bytes ++ s.readBytes (reloadPieceAddr s.base bytes.length) 16
  if reloadBytes ≤ bytes'.length then s.validate bytes'
  else s.withEngine { s.engine with progress := some (.reloading bytes') }

/-- RELOAD_PIECE_READ (R166, R167). -/
def execReloadPieceRead (s : State) : Host.Outcome State Fault Refusal :=
  finish s (s.serve .reloadPiece (fun s' =>
    match s'.engine.progress with
    | some (.reloading bytes) => s'.reloadPiece bytes
    | _ => s'))

/-! ## Outcome and consumer index (R162, R168) -/

/-- R162, R174: bytes 2 to 5 of the request's record: outcome, zero, note. -/
def outcomeBytes (o : ReqOutcome) (note : Nat) : List Byte := [byteOf o.code, 0#8] ++ toLE 2 note

/-- R162: the consumer index advances by 1, wrapping from 31 to 0, and its word is pending. -/
def State.advanceConsumer (s : State) : State :=
  s.withEngine { s.engine with
      consumer := (s.engine.consumer + 1) % 32, progress := some .indexWord, wordFlag := true }

/-- R99: the memberships that name a place of the control area. -/
def inOldControlArea : Membership → Bool
  | .contextWord => true
  | .requestProducer => true
  | .noticeConsumer => true
  | .partWritten control => control
  | .hostLocation => true
  | .text _ _ => false
  | .screen _ => false
  | .keyConsumer _ => false
  | .plain => false

/-- R88: a byte with no other membership is plain. -/
def plainIfNone (l : List Membership) : List Membership := if l = [] then [.plain] else l

/-- R99: a queued entry after a move: its memberships in the old control area become plain. -/
def Entry.afterMove (e : Entry) : Entry :=
  { e with members := e.members.map (fun l => plainIfNone (l.filter (fun m => !inOldControlArea m))) }

/-- R168: what a move does besides the new configuration: base, indices, discarded notices, latched context, and the
memberships of the write queue (R99). -/
def State.moveBase (s : State) (b : Nat) : State :=
  let s1 := s.withBase b
  let s2 := s1.withPath { s1.path with context := 0, queue := s1.path.queue.map Entry.afterMove }
  let s3 := s2.withEngine { s2.engine with consumer := 0, latest := 0, progress := some .indexWord, wordFlag := true }
  s3.withNotices { s3.notices with
    reserved := 0, published := 0, consumer := 0, overflow := !s3.notices.unwritten.isEmpty, unwritten := [] }

/-- R168: the completion event of a successful RELOAD. -/
def State.completeReload (s : State) (c : LoadedConfig) (move : Option Nat) : State :=
  let s1 := match move with
    | some b => s.moveBase b
    | none => s.advanceConsumer
  let s2 : State := ((s1.applyConfig c).withPart .running).withCause .reload
  let s3 := s2.markAll
  ((s3.withEngine { s3.engine with wordFlag := true }).withNotices { s3.notices with wordFlag := true }).driveAttn

/-- R162, R168: the serving of an outcome write. -/
def State.outcomeServed (s : State) (o : ReqOutcome) (note : Nat) (after : AfterOutcome) : State :=
  let s1 := s.writeBytes (s.requestAddr + 2) (outcomeBytes o note)
  match after with
  | .plain => s1.advanceConsumer
  | .badConfig => s1.advanceConsumer
  | .configured c move => s1.completeReload c move

/-- The outcome write of the request in progress is served. -/
def State.writeOutcome (s : State) : State :=
  match s.engine.progress with
  | some (.answered o note after) => s.outcomeServed o note after
  | _ => s

/-- OUTCOME_WRITE (R162, R168). -/
def execOutcomeWrite (s : State) : Host.Outcome State Fault Refusal := finish s (s.serve .outcomeWrite State.writeOutcome)

/-- R162: the word shows the index as it stands, and the request leaves progress. -/
def State.writeConsumerWord (s : State) : State :=
  let s1 := s.writeBytes (s.base + 0x114) s.requestConsumerWord
  s1.withEngine { s1.engine with wordFlag := false, progress := none }

/-- REQUEST_CONSUMER_WRITE (R162). -/
def execRequestConsumerWrite (s : State) : Host.Outcome State Fault Refusal :=
  finish s (s.serve .consumerWord State.writeConsumerWord)

/-! ## The notice writer (R163, R164) -/

/-- The address of notice slot `k` (R163). -/
def noticeSlotAddr (base k : Nat) : Nat := base + 0x600 + 16 * k

/-- R163, R164: the record of the oldest unwritten slot is written, and the published producer advances past it. -/
def State.writeNotice (s : State) : State :=
  match s.notices.unwritten with
  | q :: qs =>
    let s1 := s.writeBytes (noticeSlotAddr s.base s.notices.published) q.bytes
    (s1.withNotices { s1.notices with
        published := (s1.notices.published + 1) % 64, unwritten := qs, wordFlag := true }).driveAttn
  | [] => s

/-- NOTICE_RECORD_WRITE (R163). -/
def execNoticeRecordWrite (s : State) : Host.Outcome State Fault Refusal :=
  finish s (s.serve .noticeRecord State.writeNotice)

/-- R163: the word shows the published producer and the overflow mark as they stand. -/
def State.writeProducerWord (s : State) : State :=
  let s1 := s.writeBytes (s.base + 0x118) s.noticeProducerWord
  s1.withNotices { s1.notices with wordFlag := false }

/-- NOTICE_PRODUCER_WRITE (R163). -/
def execNoticeProducerWrite (s : State) : Host.Outcome State Fault Refusal :=
  finish s (s.serve .producerWord State.writeProducerWord)

/-! ## Image writing (R170) -/

/-- R170: the item is written as the record stands, and leaves the mark list. -/
def State.writeItem (s : State) (i : MarkItem) : State :=
  let s1 := s.writeBytes (s.base + i.offset) (s.itemBytes i)
  s1.withMarks (s1.marks.erase i)

/-- IMAGE_WRITE (R170): the item is the first writable one of the mark list, when the arbiter grants the image writing. -/
def execImageWrite (s : State) : Host.Outcome State Fault Refusal :=
  finish s (match s.grant with
    | some (.image i) => (s.charge (.image i)).writeItem i
    | _ => s)

end Sys2Proof.Machine
end

