-- ==== Sys2Proof/Machine/Link.lean ====
section
/-! DEFINITION. Chapter 7: the typesetter link: taking a page, the frame stream, completions and faults. -/

namespace Sys2Proof.Machine

/-! ## Frames (R115, R118 to R120, R179) -/

/-- High and low byte of a 2-byte argument (R115, R172). -/
def hiLo (n : Nat) : List Byte := [byteOf (n / 256), byteOf n]

/-- PAGE_START and its five arguments (R115). -/
def SendCtx.pageStartBytes (c : SendCtx) : List Byte :=
  [0x01#8] ++ hiLo c.printed ++ [byteOf c.edition, byteOf c.sectionCode, byteOf (bitOf c.resumeFlag 1)]

/-- STORY_START, FONT, SIZE, LEAD and MEASURE with their arguments: 13 frames (R115, R118). -/
def setupBytes (n : Nat) (r : Story) : List Byte :=
  [0x02#8] ++ hiLo n ++ [0x03#8, byteOf r.font, 0x04#8, byteOf r.size, 0x05#8] ++ hiLo r.leading ++ [0x06#8]
    ++ hiLo r.measure

/-- R115: a frame on LTXD, first bit first: the start bit, the data bits least significant first, the mark bit, the stop
bit. `true` is the marking level. -/
def LinkFrame.bits (f : LinkFrame) : List Bool := [false] ++ dataBits f.data ++ [f.mark, true]

/-- What LTXD is sending: the bits of the frame in the shift register, or the marking level (R115, R116). -/
def Link.ltxd (l : Link) : List Bool :=
  match l.shift with
  | some f => f.bits
  | none => [true]

/-- The start offset of placement `i` in this send (R118). -/
def SendCtx.startOffset (c : SendCtx) (i : Nat) : Nat := if i = c.startPos then c.startOff else 0

/-- The story at placement `i`, 0 beyond the last placement. -/
def SendCtx.storyAt (c : SendCtx) (i : Nat) : Nat :=
  match c.placements[i]? with
  | some q => q.story
  | none => 0

/-- The stream position after placement `i - 1`: the setup of placement `i`, or PAGE_END after the last (R118). -/
def SendCtx.atPlacement (c : SendCtx) (i : Nat) : StreamPos :=
  if i < c.placements.length then .setup i 0 else .pageEnd

/-- R120: the bytes of the piece from scan offset `x`, passed over until one makes a frame: the frame if any, the scan
offset after it, and the bytes left. -/
def scanPiece (i : Nat) : Nat → List Byte → Option LinkFrame × Nat × List Byte
  | x, [] => (none, x, [])
  | x, b :: bs =>
    if b = 0x1E#8 then (some ⟨true, 0x07#8, .text i x⟩, x + 1, bs)
    else if b = 0x1C#8 ∨ 0x20 ≤ b.toNat then (some ⟨false, b, .text i x⟩, x + 1, bs)
    else scanPiece i (x + 1) bs

/-- R118, R121: the next frame of the stream, if it is ready, and the context after it. -/
def State.nextFrame (s : State) (c : SendCtx) : Option LinkFrame × SendCtx :=
  match c.pos with
  | .pageStart k =>
    (some ⟨true, c.pageStartBytes.getD k 0#8, .pageStart⟩,
      { c with pos := if k + 1 < 6 then .pageStart (k + 1) else c.atPlacement c.startPos })
  | .setup i k =>
    let bytes := if k = 0 then setupBytes (c.storyAt i) (s.story (c.storyAt i)) else c.setup
    (some ⟨true, bytes.getD k 0#8, .setup i⟩,
      { c with setup := bytes, pos := if k + 1 < 13 then .setup i (k + 1) else .text i (c.startOffset i) })
  | .text i x =>
    match scanPiece i x c.piece with
    | (some f, x', bs) => (some f, { c with pos := .text i x', piece := bs })
    | (none, x', _) =>
      if x' < s.sendBlockLength c i then (none, { c with pos := .text i x', piece := [] })
      else (some ⟨true, 0x08#8, .storyEnd i⟩, { c with pos := c.atPlacement (i + 1), piece := [] })
  | .pageEnd => (some ⟨true, 0x09#8, .pageEnd⟩, { c with pos := .finished })
  | .finished => (none, c)

/-- R121: whenever the holding buffer is empty during a send, the next frame is produced into it if it is ready. -/
def State.linkProduce (s : State) : State :=
  if s.link.state = .sending ∧ s.link.hold = none then
    match s.link.ctx with
    | some c => s.withLink { s.link with hold := (s.nextFrame c).1, ctx := some (s.nextFrame c).2 }
    | none => s
  else s

/-- R116: the frame moves when the holding buffer is full, the shift register empty and LREADY asserted. -/
def State.linkMove (s : State) : State :=
  if s.link.state = .sending ∧ s.link.hold.isSome = true ∧ s.link.shift = none ∧ s.pins.lready = true then
    s.withLink { s.link with hold := none, shift := s.link.hold }
  else s

/-- The link after an event: a frame is produced, it may move, and the next is produced (R116, R121). -/
def State.linkPump (s : State) : State := s.linkProduce.linkMove.linkProduce

/-! ## SEND_START (R76, R117) -/

/-- A RELOAD is in progress between its acceptance and its completion (R117, R166, R168). -/
def State.reloadInProgress (s : State) : Bool :=
  match s.engine.progress with
  | some (.reloading _) => true
  | some (.answered _ _ .badConfig) => true
  | some (.answered _ _ (.configured _ _)) => true
  | _ => false

/-- R117: all the conditions of the send-start event besides a page in the queue. -/
def State.mayTakePage (s : State) : Bool :=
  s.link.state == .idle && s.part == .running && s.link.divisor != 0 && !s.pins.lfault && !s.link.waitReady
    && !s.reloadInProgress

/-- R76: a QUEUED story becomes SENDING; its image is marked, and that of a story already SET too. -/
def State.startSending (s : State) (n : Nat) : State :=
  (if (s.story n).state = .queued then s.setStory n { s.story n with state := .sending } else s).mark (.story n)

/-- R76, R117: the send-start event for page `p`, the head of the send queue with `q` behind it. -/
def State.takePage (s : State) (p : Nat) (q : List Nat) : State :=
  let g := s.page p
  let s1 := (s.setPage p { g with state := .sending }).setSendQueue q
  let s2 := (s.placedOn p).foldl State.startSending s1
  let ctx : SendCtx :=
    { page := p, printed := g.printed, edition := g.edition, sectionCode := g.sectionCode, placements := g.placements,
      startPos := g.resumePos, startOff := g.resumeOff,
      resumeFlag := !(g.resumePos == 0 && g.resumeOff == 0), tag := s.drainTag, pos := .pageStart 0, setup := [],
      piece := [] }
  (s2.setLink { s2.link with state := .sending, timer := 0, ctx := some ctx }).linkPump

/-- SEND_START (R117, log entry 12). -/
def execSendStart (s : State) : Host.Outcome State Fault Refusal :=
  finish s (match s.sendQueue with
    | p :: q => if s.mayTakePage = true then s.takePage p q else s
    | [] => s)

/-! ## LINK_TEXT_READ (R120) -/

/-- R120: the piece that holds the scan offset is read, and the bytes below the scan offset are passed over. -/
def State.readLinkPiece (s : State) (c : SendCtx) (i x : Nat) : State :=
  let bs := s.readBytes ((s.story (c.storyAt i)).base + 16 * (x / 16)) 16
  (s.withLink { s.link with ctx := some { c with piece := bs.drop (x % 16) } }).linkPump

/-- LINK_TEXT_READ (R120, R121). -/
def execLinkTextRead (s : State) : Host.Outcome State Fault Refusal :=
  finish s (s.serve .linkText (fun s' =>
    match s'.link.ctx with
    | some c =>
      match c.pos with
      | .text i x => s'.readLinkPiece c i x
      | _ => s'
    | none => s'))

/-! ## LINK_SHIFT_COMPLETION (R77, R116, R122) -/

/-- R77, R122: the STORY_END of placement `i` is fully shifted out: the resume point advances and the story is SET. -/
def State.storyComplete (s : State) (c : SendCtx) (i : Nat) : State :=
  let s1 := s.setPage c.page { s.page c.page with resumePos := i + 1, resumeOff := 0 }
  s1.setStory (c.storyAt i) { s1.story (c.storyAt i) with state := .set }

/-- R77, R122: PAGE_END is fully shifted out: the page is SENT and the link IDLE, with a SENT notice. -/
def State.sendComplete (s : State) (c : SendCtx) : State :=
  let s1 := s.setPage c.page { s.page c.page with state := .sent, resumePos := 0, resumeOff := 0 }
  let s2 := s1.notify { s1.notice .sent .noCause with page := some c.page }
  s2.setLink { s2.link with state := .idle, timer := 0, ctx := none }

/-- R116, R122: what a shift completion of a frame of the send completes. -/
def State.frameComplete (s : State) (c : SendCtx) (o : Origin) : State :=
  match o with
  | .storyEnd i => (s.storyComplete c i).linkPump
  | .pageEnd => s.sendComplete c
  | .pageStart => s.linkPump
  | .setup _ => s.linkPump
  | .text _ _ => s.linkPump

/-- LINK_SHIFT_COMPLETION (R116, R122). In HALTED it changes no page or story (R129). -/
def execLinkShiftCompletion (s : State) : Host.Outcome State Fault Refusal :=
  finish s (match s.link.shift with
    | none => s
    | some f =>
      let s1 : State := s.withLink { s.link with shift := none }
      match s.link.state, s.link.ctx with
      | .sending, some c => s1.frameComplete c f.origin
      | _, _ => s1)

/-! ## Faults (R123 to R127) -/

/-- R124: the resume point of a produced frame. -/
def SendCtx.pointOf (c : SendCtx) : Origin → Nat × Nat
  | .pageStart => (c.startPos, c.startOff)
  | .setup i => (i, c.startOffset i)
  | .text i x => (i, x)
  | .storyEnd i => (i, c.startOffset i)
  | .pageEnd => (c.placements.length, 0)

/-- R124: the resume point of the next frame the stream would produce. -/
def State.pointOfNext (s : State) (c : SendCtx) : Nat × Nat :=
  match c.pos with
  | .pageStart _ => (c.startPos, c.startOff)
  | .setup i _ => (i, c.startOffset i)
  | .text i x => if x < s.sendBlockLength c i then (i, x) else (i, c.startOffset i)
  | .pageEnd => (c.placements.length, 0)
  | .finished => (c.placements.length, 0)

/-- R124: the resume point decided by the oldest unfinished frame: the shift register's, the holding buffer's, or the
next of the stream. -/
def State.faultPoint (s : State) (c : SendCtx) : Nat × Nat :=
  match s.link.shift with
  | some f => c.pointOf f.origin
  | none =>
    match s.link.hold with
    | some f => c.pointOf f.origin
    | none => s.pointOfNext c

/-- R19, R78: a SENDING story of a faulted page becomes QUEUED again. -/
def State.stopSending (s : State) (n : Nat) : State :=
  if (s.story n).state = .sending then s.setStory n { s.story n with state := .queued } else s

/-- R78, R125: the page being sent faults. -/
def State.linkFault (s : State) (c : SendCtx) (cause : Cause) : State :=
  let pt := s.faultPoint c
  let s1 := s.setPage c.page { s.page c.page with state := .faulted, resumePos := pt.1, resumeOff := pt.2 }
  let s2 := (c.placements.map (·.story)).foldl State.stopSending s1
  let s3 := s2.notify { s2.notice .fault cause with page := some c.page, story := c.storyAt pt.1 }
  s3.setLink { s3.link with
    state := .idle, hold := none, shift := none, timer := 0, ctx := none,
    waitReady := s3.link.waitReady || cause == .timeout }

/-- LFAULT_ASSERT (R123): during a send it faults the page with cause FAULT; a level already asserted is no assertion. -/
def execLfaultAssert (s : State) : Host.Outcome State Fault Refusal :=
  finish s (if s.pins.lfault = true then s
    else
      let s1 : State := s.withPins { s.pins with lfault := true }
      match s.link.state, s.link.ctx with
      | .sending, some c => s1.linkFault c .fault
      | _, _ => s1)

/-- LFAULT_DEASSERT (R123). -/
def execLfaultDeassert (s : State) : Host.Outcome State Fault Refusal :=
  finish s (s.withPins { s.pins with lfault := false })

/-- R126: a frame waits for LREADY and the timer has reached T, with T nonzero. -/
def State.timeoutDue (s : State) : Bool :=
  s.link.hold.isSome && !s.pins.lready && s.link.timeout != 0 && decide (s.link.timeout ≤ s.link.timer)

/-- LINK_TIMEOUT (R126, log entry 11): the page faults with cause TIMEOUT and the wait-ready condition is set. -/
def execLinkTimeout (s : State) : Host.Outcome State Fault Refusal :=
  finish s (match s.link.state, s.link.ctx with
    | .sending, some c => if s.timeoutDue = true then s.linkFault c .timeout else s
    | _, _ => s)

/-- LREADY_ASSERT (R116, R126): the wait-ready condition is cleared, the timer becomes 0 unless the link has stopped, and
a waiting frame moves; a level already asserted is no assertion. -/
def execLreadyAssert (s : State) : Host.Outcome State Fault Refusal :=
  finish s (if s.pins.lready = true then s
    else
      let s1 : State := s.withPins { s.pins with lready := true }
      (s1.setLink { s1.link with
        waitReady := false, timer := if s1.link.state = .halted then s1.link.timer else 0 }).linkPump)

/-- LREADY_DEASSERT (R116): the next frame is held in the holding buffer. -/
def execLreadyDeassert (s : State) : Host.Outcome State Fault Refusal :=
  finish s (s.withPins { s.pins with lready := false })

end Sys2Proof.Machine
end

