-- ==== Sys2Proof/Machine/Pages.lean ====
section
/-! DEFINITION. Chapter 4: the page requests SETPAGE, PLACE, UNPLACE, RELEASE, REOPEN, CLEAR and RESUME. -/

namespace Sys2Proof.Machine

/-- SETPAGE (page, printed number, edition, section), R68. -/
def doSetpage (r : Request) (s : State) : State :=
  let p := r.page
  let printed := r.u16 12
  let edition := r.u8 9
  let sec := r.u8 10
  let g := s.page p
  if validPage p = false then s.answer .noPage 0
  else if s.isReporter r.requester = true then s.answer .rank 0
  else if printed = 0 ∨ 999 < printed ∨ validEdition edition = false ∨ sec < 0x41 ∨ 0x5A < sec then s.answer .badArg 0
  else if g.state ≠ .empty ∧ g.state ≠ .makeup then s.answer .badState 0
  else (s.setPage p { g with printed := printed, edition := edition, sectionCode := sec }).answer .done 0

/-- SETPAGE: the request code is 13 (R174). -/
def execSetpage (s : State) : Host.Outcome State Fault Refusal := finish s (s.dispatch (· == 13) doSetpage)

/-- R70: the story is appended to the page's placements with its hole. -/
def State.placeStory (s : State) (n p a : Nat) : State :=
  let g := s.page p
  let s1 := s.setPage p { g with
    placements := g.placements ++ [⟨n, a⟩], state := if g.state = .empty then .makeup else g.state }
  (s1.setStory n { s1.story n with placement := some (p, g.placements.length) }).setHole n a

/-- PLACE (story, page, hole), R69. -/
def doPlace (r : Request) (s : State) : State :=
  let n := r.story
  let p := r.u8 10
  let a := r.u32 12
  let st := s.story n
  let g := s.page p
  if validStory n = false then s.answer .noStory 0
  else if validPage p = false then s.answer .noPage 0
  else if 65535 < a then s.answer .badArg 0
  else if s.isReporter r.requester = true then s.answer .rank 0
  else if g.state ≠ .empty ∧ g.state ≠ .makeup ∧ g.state ≠ .late then s.answer .badState 0
  else if g.edition = 0 then s.answer .badState 0
  else if st.state ≠ .filed ∧ st.state ≠ .held then s.answer .badState 0
  else if st.placement.isSome = true then s.answer .badState 0
  else if 12 ≤ g.placements.length then s.answer .full 0
  else (s.placeStory n p a).answer .done g.placements.length

/-- PLACE: the request code is 14 (R174). -/
def execPlace (s : State) : Host.Outcome State Fault Refusal := finish s (s.dispatch (· == 14) doPlace)

/-- The page is MAKEUP or LATE. -/
def Page.inMakeup (g : Page) : Bool := g.state == .makeup || g.state == .late

/-- UNPLACE (story), R71. -/
def doUnplace (r : Request) (s : State) : State :=
  let n := r.story
  if validStory n = false then s.answer .noStory 0
  else if s.isReporter r.requester = true then s.answer .rank 0
  else match (s.story n).placement with
    | none => s.answer .badState 0
    | some (p, _) =>
      if (s.page p).inMakeup = false then s.answer .badState 0
      else (s.removePlacement n).answer .done 0

/-- UNPLACE: the request code is 15 (R174). -/
def execUnplace (s : State) : Host.Outcome State Fault Refusal := finish s (s.dispatch (· == 15) doUnplace)

/-- R72, check 7: an override counts when it is given by SLOT or the system. -/
def State.overrideCounts (s : State) (r : Request) : Bool := r.u8 9 != 0 && s.isSlotOrSystem r.requester

/-- RELEASE (page, override), R72. -/
def doRelease (r : Request) (s : State) : State :=
  let p := r.page
  let g := s.page p
  let firstHeld := (s.placedOn p).find? (fun n => (s.story n).state == .held)
  let firstUnfit := (s.placedOn p).find? (fun n => (s.story n).fit != .fits)
  if validPage p = false then s.answer .noPage 0
  else if s.isReporter r.requester = true then s.answer .rank 0
  else if g.inMakeup = false then s.answer .badState 0
  else if g.state = .late ∧ s.isEditor r.requester = true then s.answer .rank 0
  else if g.placements = [] then s.answer .badState 0
  else if firstHeld.isSome = true then s.answer .held (firstHeld.getD 0)
  else if firstUnfit.isSome = true ∧ s.overrideCounts r = false then s.answer .unfit (firstUnfit.getD 0)
  else (s.releasePage p).answer .done 0

/-- RELEASE: the request code is 16 (R174). -/
def execRelease (s : State) : Host.Outcome State Fault Refusal := finish s (s.dispatch (· == 16) doRelease)

/-- R20: a story comes back FILED into a basket. -/
def State.fileBack (b : Nat) (s : State) (n : Nat) : State :=
  (s.setStory n { s.story n with state := .filed }).joinBasket n b

/-- REOPEN (page, basket), R80. -/
def doReopen (r : Request) (s : State) : State :=
  let p := r.page
  let b := r.u8 9
  let g := s.page p
  if validPage p = false then s.answer .noPage 0
  else if s.isSlotOrSystem r.requester = false then s.answer .rank 0
  else if validBasket b = false then s.answer .badArg 0
  else if g.state ≠ .sent then s.answer .badState 0
  else ((s.placedOn p).foldl (State.fileBack b) (s.setPage p { g with state := .makeup })).answer .done 0

/-- REOPEN: the request code is 17 (R174). -/
def execReopen (s : State) : Host.Outcome State Fault Refusal := finish s (s.dispatch (· == 17) doReopen)

/-- R20, R81: a story of a cleared page gets placement none; a QUEUED one becomes FILED and joins basket 23. -/
def State.clearStory (s : State) (n : Nat) : State :=
  let s1 := s.setStory n { s.story n with placement := none }
  if (s.story n).state = .queued then s1.fileBack 23 n else s1

/-- CLEAR (page), R81. -/
def doClear (r : Request) (s : State) : State :=
  let p := r.page
  let g := s.page p
  if validPage p = false then s.answer .noPage 0
  else if s.isReporter r.requester = true then s.answer .rank 0
  else if g.state = .empty ∨ g.state = .queued ∨ g.state = .sending then s.answer .badState 0
  else if g.state = .faulted ∧ s.isEditor r.requester = true then s.answer .rank 0
  else
    let s1 := s.setPage p { g with placements := [], state := .empty, resumePos := 0, resumeOff := 0 }
    ((s.placedOn p).foldl State.clearStory s1).answer .done 0

/-- CLEAR: the request code is 18 (R174). -/
def execClear (s : State) : Host.Outcome State Fault Refusal := finish s (s.dispatch (· == 18) doClear)

/-- R20, R79: RESUME FROM_START makes a SET story QUEUED again. -/
def State.requeueSet (s : State) (n : Nat) : State :=
  if (s.story n).state = .set then s.setStory n { s.story n with state := .queued } else s

/-- RESUME (page, mode), R79; the modes are FROM_POINT 1 and FROM_START 2 (R174). -/
def doResume (r : Request) (s : State) : State :=
  let p := r.page
  let mode := r.u8 9
  let g := s.page p
  if validPage p = false then s.answer .noPage 0
  else if s.isSlotOrSystem r.requester = false then s.answer .rank 0
  else if mode ≠ 1 ∧ mode ≠ 2 then s.answer .badArg 0
  else if g.state ≠ .faulted then s.answer .badState 0
  else if mode = 1 then
    ((s.setPage p { g with state := .queued }).setSendQueue (p :: s.sendQueue)).answer .done 0
  else
    let s1 := (s.setPage p { g with state := .queued, resumePos := 0, resumeOff := 0 }).setSendQueue (p :: s.sendQueue)
    ((s.placedOn p).foldl State.requeueSet s1).answer .done 0

/-- RESUME: the request code is 19 (R174). -/
def execResume (s : State) : Host.Outcome State Fault Refusal := finish s (s.dispatch (· == 19) doResume)

end Sys2Proof.Machine
end

