-- ==== Sys2Proof/Machine/Guard.lean ====
section
/-! DEFINITION. Memberships (R88, R94, R100), the entry check for text (R103) and part-written locations (R105). -/

namespace Sys2Proof.Machine

/-! ## Memberships -/

/-- The text memberships of an address, with the offset in the block. -/
def State.textMembers (s : State) (a : Nat) : List Membership :=
  (s.storiesTouched a 1).map (fun n => .text n (a - (s.story n).base))

/-- The screen memberships of an address. -/
def State.screenMembers (s : State) (a : Nat) : List Membership :=
  (terminalNumbers.filter (fun t => ((s.term t).cfg.rowAt a).isSome)).map .screen

/-- The control-area live words and part-written regions at an address (R88). -/
def State.liveMembers (s : State) (a : Nat) : List Membership :=
  if inControlArea s.base a = true then
    let off := a - s.base
    if 0x100 ≤ off ∧ off < 0x104 then [.contextWord]
    else if 0x104 ≤ off ∧ off < 0x108 then [.requestProducer]
    else if 0x108 ≤ off ∧ off < 0x10C then [.noticeConsumer]
    else []
  else []

/-- The part-written regions of the control area at an address. -/
def State.controlPartMembers (s : State) (a : Nat) : List Membership :=
  if inControlArea s.base a && inRegions partWrittenRegions (a - s.base) then [.partWritten true] else []

/-- The host locations at an address. -/
def State.hostMembers (s : State) (a : Nat) : List Membership :=
  if inControlArea s.base a && inRegions hostRegions (a - s.base) then [.hostLocation] else []

/-- The terminals whose key ring header has the address among its bytes `lo` to `lo + 1` (R177). -/
def State.ringFieldAt (s : State) (a lo : Nat) : List Nat :=
  terminalNumbers.filter (fun t =>
    s.enabled t && decide ((s.term t).cfg.ring + lo ≤ a ∧ a < (s.term t).cfg.ring + lo + 2))

/-- The key ring consumer fields at an address. -/
def State.consumerMembers (s : State) (a : Nat) : List Membership := (s.ringFieldAt a 2).map .keyConsumer

/-- The part-written fields of key ring headers at an address: producer and overrun mark. -/
def State.ringPartMembers (s : State) (a : Nat) : List Membership :=
  if s.ringFieldAt a 0 = [] then [] else [.partWritten false]

/-- Plain, when a byte has no other membership (R88). -/
def orPlain (l : List Membership) : List Membership := if l = [] then [.plain] else l

/-- R88, R100: every membership of an address, in the order of R88's table. -/
def State.membersAt (s : State) (a : Nat) : List Membership :=
  match s.part with
  | .passThrough => [.plain]
  | .notConfigured => orPlain (s.liveMembers a ++ s.controlPartMembers a)
  | .running =>
    orPlain (s.textMembers a ++ s.screenMembers a ++ s.liveMembers a ++ s.consumerMembers a ++ s.controlPartMembers a
      ++ s.ringPartMembers a ++ s.hostMembers a)

/-- The memberships of each byte of a write of `n` bytes at `a`. -/
def State.membersOf (s : State) (a n : Nat) : List (List Membership) :=
  (List.range n).map (fun i => s.membersAt (a + i))

/-- R94: the write of `n` bytes at `a` covers the whole of the membership's live word; true of any other membership. -/
def State.coversWord (s : State) (a n : Nat) : Membership → Bool
  | .contextWord => decide (a ≤ s.base + 0x100 ∧ s.base + 0x104 ≤ a + n)
  | .requestProducer => decide (a ≤ s.base + 0x104 ∧ s.base + 0x108 ≤ a + n)
  | .noticeConsumer => decide (a ≤ s.base + 0x108 ∧ s.base + 0x10C ≤ a + n)
  | .keyConsumer t => decide (a ≤ (s.term t).cfg.ring + 2 ∧ (s.term t).cfg.ring + 4 ≤ a + n)
  | .text _ _ => true
  | .screen _ => true
  | .partWritten _ => true
  | .hostLocation => true
  | .plain => true

/-- R94: the live-word bytes of a partial write are treated as plain; a byte keeps its other memberships. -/
def State.keptMembers (s : State) (a n : Nat) (l : List Membership) : List Membership :=
  orPlain (l.filter (s.coversWord a n))

/-- R94: the write covers part of a live word and not all of it. -/
def State.partialLive (s : State) (a n : Nat) : Bool :=
  (s.membersOf a n).any (fun l => l.any (fun m => !s.coversWord a n m))

/-! ## The entry check for text (R103) -/

/-- R103: the table: a byte of story `r`'s text is accepted from a context. -/
def State.textAccepted (s : State) (c : ContextKind) (r : Story) : Bool :=
  match r.state with
  | .sending => false
  | .set => false
  | .free => true
  | .filed => c == .system
  | .killed => c == .system
  | .held =>
    match c with
    | .system => true
    | .unknown => false
    | .terminal t => r.holder == t && (!s.restricted r.edition || (s.term t).cfg.rank == .slot)
  | .queued =>
    match c with
    | .system => true
    | .unknown => false
    | .terminal t => (s.term t).cfg.rank == .slot

/-- R103: the cause of a refusal: the first entry of the list that applies. -/
def State.textCause (s : State) (c : ContextKind) (r : Story) : Cause :=
  if r.state = .sending then .inSend
  else if r.state = .set then .set
  else if c = .unknown then .unknown
  else if r.state = .queued then .released
  else if r.state = .held ∧ c = .terminal r.holder ∧ s.restricted r.edition = true then .restricted
  else .notHolder

/-- The story whose text a membership names, if the byte is refused under it. -/
def State.refusedText (s : State) (c : ContextKind) : Membership → Option Nat
  | .text n _ => if s.textAccepted c (s.story n) = true then none else some n
  | .screen _ => none
  | .contextWord => none
  | .requestProducer => none
  | .noticeConsumer => none
  | .keyConsumer _ => none
  | .partWritten _ => none
  | .hostLocation => none
  | .plain => none

/-- Whether a membership is part-written, and if so whether in the control area (R105). -/
def partWrittenIn : Membership → Option Bool
  | .partWritten c => some c
  | .text _ _ => none
  | .screen _ => none
  | .contextWord => none
  | .requestProducer => none
  | .noticeConsumer => none
  | .keyConsumer _ => none
  | .hostLocation => none
  | .plain => none

/-- A refusal of a write: the story and cause of a GUARD notice, or the cause of an IMAGE notice (R107). -/
inductive Refused where
  | text (story : Nat) (cause : Cause)
  | part (cause : Cause)
  deriving DecidableEq, Repr

/-- R89, R105, R107: the refusal of an aligned write of `n` bytes at `a`, if any byte is refused: the part-written byte
with the lowest address if there is one, otherwise the refused text byte with the lowest address. -/
def State.refusalOf (s : State) (a n : Nat) : Option Refused :=
  let l := (s.membersOf a n).flatten
  match l.findSome? partWrittenIn with
  | some c => some (.part (if c then .control else .keyRing))
  | none =>
    match l.findSome? (s.refusedText s.contextKind) with
    | some m => some (.text m (s.textCause s.contextKind (s.story m)))
    | none => none

/-- R107: the notice of a refusal. -/
def State.refusalNotice (s : State) : Refused → Notice
  | .text m c =>
    { s.notice .guard c with
      terminal := s.contextTerminal, story := m, page := (s.story m).placement.map (·.1) }
  | .part c => { s.notice .image c with terminal := s.contextTerminal }

/-- R106, R107: a refusal writes a notice if the context's flag was clear, and sets the flag. -/
def State.refuseWrite (s : State) (r : Refused) : State :=
  let c := s.contextKind
  (if s.refusedFlag c = true then s else s.notify (s.refusalNotice r)).setRefusedFlag c true

end Sys2Proof.Machine
end

