-- ==== Sys2Proof/Machine/Path.lean ====
section
/-! DEFINITION. Chapter 5: processor reads and writes, the write queue, drains and their effects. -/

namespace Sys2Proof.Machine

/-! ## Reads (R85, R86, R95) -/

/-- The byte an entry holds at an address. -/
def Entry.byteAt (e : Entry) (a : Nat) : Option Byte := if e.addr ≤ a then e.data[a - e.addr]? else none

/-- The byte of the youngest entry that holds the address (R86). The queue stands oldest first. -/
def queuedByte : List Entry → Nat → Option Byte
  | [], _ => none
  | e :: q, a => (queuedByte q a).or (e.byteAt a)

/-- R86: every byte of the transfer is held by some entry. -/
def State.whollyQueued (s : State) (a n : Nat) : Bool :=
  (List.range n).all (fun i => (queuedByte s.path.queue (a + i)).isSome)

/-- The byte that the memory side gives a processor read: the memory content, and past the last address, where there is
none, a free value (log entry 22). -/
def State.busByte (s : State) (x : Nat) : Byte :=
  if x < addressSpace then s.mem.read x else Config.beyondByte s.free x

/-- R86: what a read of `n` bytes at `a` returns: for each byte the youngest queued write, or else the memory content. -/
def State.mergedRead (s : State) (a n : Nat) : List Byte :=
  (List.range n).map (fun i => (queuedByte s.path.queue (a + i)).getD (s.busByte (a + i)))

/-- A transfer runs past the last address; a misaligned one can. -/
def beyond (a n : Nat) : Bool := decide (addressSpace < a + n)

/-- The processor-side bus carries one transfer at a time (R85): a read waits for its data or a write is held. -/
def State.busBusy (s : State) : Bool := s.path.held.isSome || s.path.read.isSome

/-- R95: the BUSFORM notice of a misaligned transfer or a partial live-word write. -/
def State.busform (s : State) (a n : Nat) (c : Cause) : State :=
  s.notify { s.notice .busform c with terminal := s.contextTerminal, story := (s.storiesTouched a n).headD 0 }

/-- R86, R95: a read is presented. A misaligned one gives its notice, except in PASS-THROUGH (R100). -/
def State.presentRead (s : State) (a n : Nat) : State :=
  if s.busBusy = true then s
  else
    let s1 := if alignedAt a n = true ∨ s.part = .passThrough then s else s.busform a n .read
    if s.whollyQueued a n = true then s1.withPath { s1.path with readData := some (s.mergedRead a n) }
    else s1.withPath { s1.path with read := some ⟨a, n⟩ }

/-- PROCESSOR_READ (R86). -/
def execProcessorRead (a : BusAddr) (n : XferSize) (s : State) : Host.Outcome State Fault Refusal :=
  finish s (s.presentRead a.toNat n.bytes)

/-- MISALIGNED_READ (R95). -/
def execMisalignedRead (a : BusAddr) (n : XferSize) (s : State) : Host.Outcome State Fault Refusal :=
  finish s (s.presentRead a.toNat n.bytes)

/-- R86: the memory read of the waiting transfer completes, and the queue as it stands is merged in. -/
def State.completeRead (s : State) (r : ReadWait) : State :=
  let s1 : State := if beyond r.addr r.size = true then s.withFree (s.free + 1) else s
  s1.withPath { s1.path with read := none, readData := some (s.mergedRead r.addr r.size) }

/-- PROCESSOR_READ_DATA (R86). -/
def execProcessorReadData (s : State) : Host.Outcome State Fault Refusal :=
  finish s (s.serve .processorRead (fun s' =>
    match s'.path.read with
    | some r => s'.completeRead r
    | none => s'))

/-! ## Entry of writes (R89, R90, R94, R95) -/

/-- R90: an accepted write joins the queue at the back with the counter's value as its sequence number. -/
def State.enqueue (s : State) (a : Nat) (bs : List Byte) (members : List (List Membership)) : State :=
  s.withPath { s.path with
      queue := s.path.queue ++ [⟨a, bs, members, s.path.counter⟩], counter := (s.path.counter + 1) % 65536 }

/-- The write is a whole write of the context word (R94). -/
def State.writesContext (s : State) (a n : Nat) : Bool := decide (a = s.base + 0x100 ∧ n = 4)

/-- Every byte of the write is of the context word (R106). -/
def State.onlyContext (s : State) (a n : Nat) : Bool := decide (s.base + 0x100 ≤ a ∧ a + n ≤ s.base + 0x104)

/-- R94: a whole write of the context word is latched in the event of its acceptance. -/
def State.latchContext (s : State) (a : Nat) (bs : List Byte) : State :=
  if s.writesContext a bs.length = true then s.withPath { s.path with context := leNat bs } else s

/-- R89, R94, R106: an aligned write is accepted. -/
def State.acceptWrite (s : State) (a : Nat) (bs : List Byte) : State :=
  let n := bs.length
  let s1 := if s.onlyContext a n = true then s else s.setRefusedFlag s.contextKind false
  let s2 := if s.partialLive a n = true then s1.busform a n .partWord else s1
  (s2.enqueue a bs ((s.membersOf a n).map (s.keptMembers a n))).latchContext a bs

/-- R89: an aligned write enters: it is classified, checked, and accepted or refused whole. In PASS-THROUGH every byte is
plain and every write accepted (R100). -/
def State.enterAligned (s : State) (a : Nat) (bs : List Byte) : State :=
  if s.part = .passThrough then (s.enqueue a bs (s.membersOf a bs.length)).latchContext a bs
  else match s.refusalOf a bs.length with
    | some r => s.refuseWrite r
    | none => s.acceptWrite a bs

/-- R95: a misaligned write would touch the control area or the text block of a SENDING or SET story. -/
def State.mustDrop (s : State) (a n : Nat) : Bool :=
  rangesOverlap a n s.base controlAreaSize || !(s.closedAmong (s.storiesTouched a n)).isEmpty

/-- R95: a misaligned write enters: dropped, or joined to the queue as plain. -/
def State.enterMisaligned (s : State) (a : Nat) (bs : List Byte) : State :=
  let n := bs.length
  let plain := List.replicate n [Membership.plain]
  if s.part = .passThrough then s.enqueue a bs plain
  else if s.mustDrop a n = true then s.busform a n .dropped
  else (s.busform a n .write).enqueue a bs plain

/-- A write enters (R85). -/
def State.enterWrite (s : State) (a : Nat) (bs : List Byte) : State :=
  if alignedAt a bs.length = true then s.enterAligned a bs else s.enterMisaligned a bs

/-- R85, R89: a write is presented: it enters, or is held on the bus while the queue holds 8 entries. -/
def State.presentWrite (s : State) (a : Nat) (bs : List Byte) : State :=
  if s.busBusy = true then s
  else if 8 ≤ s.path.queue.length then s.withPath { s.path with held := some ⟨a, bs⟩ }
  else s.enterWrite a bs

/-- WRITE_ENTRY (R89). -/
def execWriteEntry (a : BusAddr) (d : BusData) (s : State) : Host.Outcome State Fault Refusal :=
  finish s (s.presentWrite a.toNat (busBytes d))

/-- MISALIGNED_WRITE (R95). -/
def execMisalignedWrite (a : BusAddr) (d : BusData) (s : State) : Host.Outcome State Fault Refusal :=
  finish s (s.presentWrite a.toNat (busBytes d))

/-- CONTEXT_WORD_WRITE (R94): a whole write of the context word at the present base. -/
def execContextWordWrite (v : BitVec 32) (s : State) : Host.Outcome State Fault Refusal :=
  finish s (s.presentWrite (s.base + 0x100) (toLE 4 v.toNat))

/-- HELD_WRITE_ENTRY (R89, log entry 12): the held write enters once a drain has freed room. -/
def execHeldWriteEntry (s : State) : Host.Outcome State Fault Refusal :=
  finish s (match s.path.held with
    | some w =>
      if s.path.queue.length < 8 then
        (s.withPath { s.path with held := none }).enterWrite w.addr w.data
      else s
    | none => s)

/-! ## Drains (R91, R93) -/

/-- R163: a whole write of the notice consumer index drains. -/
def State.noticeConsumerDrained (s : State) (v : Nat) : State :=
  (s.withNotices { s.notices with
      consumer := v % 64, overflow := false, wordFlag := s.notices.wordFlag || s.notices.overflow }).driveAttn

/-- R161: a whole write of the request producer index drains. -/
def State.requestProducerDrained (s : State) (v : Nat) : State :=
  s.withEngine { s.engine with latest := v % 32 }

/-- R93: what one membership of a drained byte at `a` hands over, with old and new byte and the entry's whole value. -/
def State.handOver (a : Nat) (old new : Byte) (value : Nat) (s : State) : Membership → State
  | .text n off => s.textDrained n off old new
  | .screen t => if s.enabled t = true then s.markScreens a else s
  | .requestProducer => s.requestProducerDrained value
  | .noticeConsumer => s.noticeConsumerDrained value
  | .keyConsumer t => s.ringConsumerDrained t value
  | .contextWord => s
  | .partWritten _ => s
  | .hostLocation => s
  | .plain => s

/-- R93: the effects of a drained entry, byte by byte in ascending address. -/
def State.handOverBytes (value : Nat) : State → Nat → List Byte → List Byte → List (List Membership) → State
  | s, a, old :: olds, new :: news, ms :: mss =>
    State.handOverBytes value (ms.foldl (State.handOver a old new value) s) (a + 1) olds news mss
  | s, _, _, _, _ => s

/-- The bytes of an entry that lie at addresses of main memory: all of them, but those of a misaligned write past the last
address (log entry 22). -/
def Entry.inMemory (e : Entry) : List Byte := e.data.take (addressSpace - e.addr)

/-- R91: the entry is written to memory and leaves the queue, and its drain is announced (R92). -/
def State.drainToMemory (s : State) (e : Entry) (q : List Entry) : State :=
  ((s.withPath { s.path with queue := q }).writeBytes e.addr e.inMemory).announceDrain e.seq

/-- R93, R95: the effects of a drain; none in PASS-THROUGH (R100). A misaligned write puts the stories it touched into
recount. -/
def State.drainEffects (s : State) (e : Entry) (olds : List Byte) : State :=
  if s.part = .passThrough then s
  else
    let s1 := State.handOverBytes (leNat e.data) s e.addr olds e.data e.members
    if alignedAt e.addr e.data.length = true then s1 else s1.uncountedWrite e.addr e.data.length

/-- R91: the drain of the oldest entry, one event. -/
def State.drainOldest (s : State) : State :=
  match s.path.queue with
  | e :: q => (s.drainToMemory e q).drainEffects e (s.readBytes e.addr e.data.length)
  | [] => s

/-- The oldest entry carries a membership that satisfies `p`, and drains hand effects over (R93, R100). -/
def State.oldestHas (s : State) (p : Membership → Bool) : Bool :=
  s.part != .passThrough && (match s.path.queue with
    | e :: _ => e.members.any (fun l => l.any p)
    | [] => false)

/-- DRAIN (R91). -/
def execDrain (s : State) : Host.Outcome State Fault Refusal := finish s (s.serve .drain State.drainOldest)

/-- The membership is the request producer index. -/
def isRequestProducer (m : Membership) : Bool := m == .requestProducer

/-- The membership is the notice consumer index. -/
def isNoticeConsumer (m : Membership) : Bool := m == .noticeConsumer

/-- The membership is a key ring's consumer field. -/
def isKeyConsumer : Membership → Bool
  | .keyConsumer _ => true
  | .text _ _ => false
  | .screen _ => false
  | .contextWord => false
  | .requestProducer => false
  | .noticeConsumer => false
  | .partWritten _ => false
  | .hostLocation => false
  | .plain => false

/-- REQUEST_PRODUCER_INDEX_WRITE (R161): the drain of a whole write of the request producer index. -/
def execRequestProducerIndexWrite (s : State) : Host.Outcome State Fault Refusal :=
  finish s (if s.oldestHas isRequestProducer = true then s.serve .drain State.drainOldest else s)

/-- NOTICE_CONSUMER_INDEX_WRITE (R163): the drain of a whole write of the notice consumer index. -/
def execNoticeConsumerIndexWrite (s : State) : Host.Outcome State Fault Refusal :=
  finish s (if s.oldestHas isNoticeConsumer = true then s.serve .drain State.drainOldest else s)

/-- KEY_RING_CONSUMER_WRITE (R146): the drain of a whole write of a key ring's consumer field. -/
def execKeyRingConsumerWrite (s : State) : Host.Outcome State Fault Refusal :=
  finish s (if s.oldestHas isKeyConsumer = true then s.serve .drain State.drainOldest else s)

end Sys2Proof.Machine
end

