-- ==== Sys2Proof/Machine/Resets.lean ====
section
/-! DEFINITION. The two resets (R171, and the reset rule of every chapter: R2, R46, R63, R84, R101, R113, R130, R147,
R159). -/

namespace Sys2Proof.Machine

/-- Main memory when the operation has been finished on the memory side: the bytes of a drain or of a part write have reached
it, and a read has left it as it was (R101). -/
def State.memoryAfter (s : State) : MemOp → Memory
  | .drain => s.drainOldest.mem
  | .keyRecord n => (s.keyServed n).mem
  | .keyHeader _ t => (s.headerServed t).mem
  | .outcomeWrite => s.writeOutcome.mem
  | .consumerWord => s.writeConsumerWord.mem
  | .noticeRecord => s.writeNotice.mem
  | .producerWord => s.writeProducerWord.mem
  | .image i => (s.writeItem i).mem
  | .processorRead => s.mem
  | .linkText => s.mem
  | .requestRead => s.mem
  | .reloadPiece => s.mem
  | .rowRead => s.mem
  | .recountPiece => s.mem
  | .widthPiece => s.mem

/-- R101: the memory that a reset leaves: an operation that it finds in progress is finished on the memory side, and no effect
of it is handed over. Whether it finds one is a free value; the operation is the one that the arbiter grants (log entry 6). -/
def State.memoryAtReset (s : State) : Memory :=
  match s.grant with
  | some o => if Config.operationUnderWay s.free = true then s.memoryAfter o else s.mem
  | none => s.mem

/-- What a reset leaves of what it finds: the input pins, main memory with the operation in progress finished (R101), and the
model's own fields. ATTN is deasserted (R164). -/
def State.keepingOutside (s r : State) : State :=
  { r with pins := { s.pins with attn := false }, mem := s.memoryAtReset, free := s.free + 1, pending := s.pending }

/-- PWRRST: the base is read from the straps (R160, R171). -/
def State.powerReset (s : State) : State :=
  s.keepingOutside { State.reset with base := strapBase s.pins.basesel }

/-- BUSRST: the base (R160), the clock with the edition records and G (R63) and the width tables with their sources (R46)
are kept; everything else is as after PWRRST. -/
def State.busReset (s : State) : State :=
  s.keepingOutside { State.reset with
    cause := .bus, base := s.base, clock := s.clock, copyfit := { s.copyfit with list := [], cursor := 0 } }

/-- PWRRST. -/
def execPwrrst (s : State) : Host.Outcome State Fault Refusal := .next s.powerReset

/-- BUSRST. -/
def execBusrst (s : State) : Host.Outcome State Fault Refusal := .next s.busReset

end Sys2Proof.Machine
end

