-- ==== Sys2Proof/Machine/Stories.lean ====
section
/-! DEFINITION. Chapter 1: the copy-flow requests REGISTER, TAKE, RETURN, FILE, KILL and PURGE. -/

namespace Sys2Proof.Machine

/-! ## REGISTER (R9, R10) -/

/-- The proposed text block overlaps a registered story's block or the control area at its present base (R9). -/
def State.blockTaken (s : State) (base cap : Nat) : Bool :=
  !(s.storiesWhere (fun r => r.registered && rangesOverlap base (256 * cap) r.base (256 * r.capacity))).isEmpty
    || rangesOverlap base (256 * cap) s.base controlAreaSize

/-- R9, check 2: an argument of REGISTER is outside its permitted values. -/
def badRegister (base cap edition basket : Nat) : Bool :=
  base % 256 != 0 || decide (addressSpace ≤ base) || cap == 0 || decide (64 < cap)
    || decide (addressSpace < base + 256 * cap) || decide (4 < edition) || !validBasket basket

/-- R10: the record that a REGISTER writes, before it joins its basket and the recount list. -/
def registeredStory (base cap edition : Nat) (urgent : Bool) (y : Style) : Story :=
  { Story.freed.withStyle y with state := .filed, base := base, capacity := cap, edition := edition, urgent := urgent }

/-- REGISTER (story, text base, capacity, edition, basket, urgent, style), R9 and R10. -/
def doRegister (r : Request) (s : State) : State :=
  let n := r.story
  let base := r.u32 12
  let cap := r.u8 16
  let edition := r.u8 17
  let basket := r.u8 18
  let y : Style := ⟨r.u8 20, r.u8 21, r.u16 22, r.u16 24⟩
  if validStory n = false then s.answer .noStory 0
  else if badRegister base cap edition basket = true then s.answer .badArg 0
  else if (s.story n).state ≠ .free then s.answer .badState 0
  else if s.blockTaken base cap = true then s.answer .overlap 0
  else
    let s1 := s.setStory n (registeredStory base cap edition (r.u8 19 != 0) y.clamped)
    ((s1.joinBasket n basket).joinRecount n s.drainTag).answer y.outcome 0

/-- REGISTER: the request code is 1 (R174). -/
def execRegister (s : State) : Host.Outcome State Fault Refusal := finish s (s.dispatch (· == 1) doRegister)

/-! ## TAKE and RETURN (R11, R12) -/

/-- TAKE (story), R11. -/
def doTake (r : Request) (s : State) : State :=
  let n := r.story
  let q := r.requester
  let st := s.story n
  if q = 0 then s.answer .badArg 0
  else if validStory n = false then s.answer .noStory 0
  else if st.state = .held ∧ st.holder = q then s.answer .holding 0
  else if st.state = .held then s.answer .held 0
  else if st.state ≠ .filed then s.answer .badState 0
  else if s.heldBy q ≠ 0 then s.answer .holding 0
  else if s.isReporter q = true ∧ s.restricted st.edition = true then s.answer .rank 0
  else (s.setStory n { st with state := .held, holder := q }).answer .done 0

/-- TAKE: the request code is 2 (R174). -/
def execTake (s : State) : Host.Outcome State Fault Refusal := finish s (s.dispatch (· == 2) doTake)

/-- RETURN (story), R12. -/
def doReturn (r : Request) (s : State) : State :=
  let n := r.story
  let st := s.story n
  if validStory n = false then s.answer .noStory 0
  else if st.state ≠ .held then s.answer .badState 0
  else if r.requester ≠ st.holder ∧ r.requester ≠ 0 then s.answer .rank 0
  else (s.setStory n { st with state := .filed, holder := 0 }).answer .done 0

/-- RETURN: the request code is 3 (R174). -/
def execReturnStory (s : State) : Host.Outcome State Fault Refusal := finish s (s.dispatch (· == 3) doReturn)

/-! ## FILE (R13, R14) -/

/-- R14: the story's place after a FILE to basket `b` with urgent argument `u`. -/
def State.fileTo (s : State) (n b : Nat) (u : Bool) : State :=
  let s1 := s.setStory n { s.story n with state := .filed, holder := 0 }
  if (s.story n).basket = b ∧ (s.story n).urgent = u then s1
  else
    let s2 := s1.leaveBasket n
    (s2.setStory n { s2.story n with urgent := u }).joinBasket n b

/-- FILE (story, basket, urgent), R13. -/
def doFile (r : Request) (s : State) : State :=
  let n := r.story
  let b := r.u8 10
  let st := s.story n
  if validStory n = false then s.answer .noStory 0
  else if validBasket b = false then s.answer .badArg 0
  else if st.state ≠ .filed ∧ st.state ≠ .held then s.answer .badState 0
  else if st.state = .held ∧ st.holder ≠ r.requester ∧ r.requester ≠ 0 then s.answer .held 0
  else (s.fileTo n b (r.u8 11 != 0)).answer .done 0

/-- FILE: the request code is 4 (R174). -/
def execFile (s : State) : Host.Outcome State Fault Refusal := finish s (s.dispatch (· == 4) doFile)

/-! ## KILL and PURGE (R15 to R17) -/

/-- R16: the changes of a KILL, in one event. -/
def State.killStory (s : State) (n : Nat) : State :=
  let s1 := s.leaveBasket n
  let s2 := s1.setStory n { s1.story n with holder := 0 }
  let s3 := (s2.removePlacement n).abandonForKill n
  s3.setStory n { s3.story n with state := .killed }

/-- KILL (story), R15. -/
def doKill (r : Request) (s : State) : State :=
  let n := r.story
  let q := r.requester
  let st := s.story n
  if validStory n = false then s.answer .noStory 0
  else if s.isReporter q = true then s.answer .rank 0
  else if st.state ≠ .filed ∧ st.state ≠ .held then s.answer .badState 0
  else if st.state = .held ∧ st.holder ≠ q ∧ s.isSlotOrSystem q = false then s.answer .held 0
  else (s.killStory n).answer .done 0

/-- KILL: the request code is 5 (R174). -/
def execKill (s : State) : Host.Outcome State Fault Refusal := finish s (s.dispatch (· == 5) doKill)

/-- PURGE (story), R17. -/
def doPurge (r : Request) (s : State) : State :=
  let n := r.story
  let st := s.story n
  if validStory n = false then s.answer .noStory 0
  else if s.isSlotOrSystem r.requester = false then s.answer .rank 0
  else if st.state ≠ .killed ∧ ¬(st.state = .set ∧ st.placement = none) then s.answer .badState 0
  else ((s.abandonForPurge n).setStory n Story.freed).answer .done 0

/-- PURGE: the request code is 6 (R174). -/
def execPurge (s : State) : Host.Outcome State Fault Refusal := finish s (s.dispatch (· == 6) doPurge)

end Sys2Proof.Machine
end

