-- ==== Sys2Proof/Machine/Dispatch.lean ====
section
/-! DEFINITION. The dispatch of a command to its meaning, one arm per row of spec/opcode_table.json. -/

namespace Sys2Proof.Machine

/-- The effect of a command on everything but the queue of waiting commands. -/
def exec (i : Instr) (s : State) : Host.Outcome State Fault Refusal :=
  match i with
  | .pwrrst => Sys2Proof.Machine.execPwrrst s
  | .busrst => Sys2Proof.Machine.execBusrst s
  | .advance => Sys2Proof.Machine.execAdvance s
  | .processorRead addr size => Sys2Proof.Machine.execProcessorRead addr size s
  | .processorReadData => Sys2Proof.Machine.execProcessorReadData s
  | .misalignedRead addr size => Sys2Proof.Machine.execMisalignedRead addr size s
  | .misalignedWrite addr data => Sys2Proof.Machine.execMisalignedWrite addr data s
  | .writeEntry addr data => Sys2Proof.Machine.execWriteEntry addr data s
  | .heldWriteEntry => Sys2Proof.Machine.execHeldWriteEntry s
  | .contextWordWrite value => Sys2Proof.Machine.execContextWordWrite value s
  | .drain => Sys2Proof.Machine.execDrain s
  | .requestProducerIndexWrite => Sys2Proof.Machine.execRequestProducerIndexWrite s
  | .noticeConsumerIndexWrite => Sys2Proof.Machine.execNoticeConsumerIndexWrite s
  | .keyRingConsumerWrite => Sys2Proof.Machine.execKeyRingConsumerWrite s
  | .unknownRequest => Sys2Proof.Machine.execUnknownRequest s
  | .register => Sys2Proof.Machine.execRegister s
  | .take => Sys2Proof.Machine.execTake s
  | .returnStory => Sys2Proof.Machine.execReturnStory s
  | .file => Sys2Proof.Machine.execFile s
  | .kill => Sys2Proof.Machine.execKill s
  | .purge => Sys2Proof.Machine.execPurge s
  | .loadwidths => Sys2Proof.Machine.execLoadwidths s
  | .widthPieceRead => Sys2Proof.Machine.execWidthPieceRead s
  | .style => Sys2Proof.Machine.execStyle s
  | .allot => Sys2Proof.Machine.execAllot s
  | .recountStart => Sys2Proof.Machine.execRecountStart s
  | .recountPieceRead => Sys2Proof.Machine.execRecountPieceRead s
  | .settime => Sys2Proof.Machine.execSettime s
  | .schedule => Sys2Proof.Machine.execSchedule s
  | .hold => Sys2Proof.Machine.execHold s
  | .setpage => Sys2Proof.Machine.execSetpage s
  | .place => Sys2Proof.Machine.execPlace s
  | .unplace => Sys2Proof.Machine.execUnplace s
  | .release => Sys2Proof.Machine.execRelease s
  | .reopen => Sys2Proof.Machine.execReopen s
  | .clear => Sys2Proof.Machine.execClear s
  | .resume => Sys2Proof.Machine.execResume s
  | .lineclear => Sys2Proof.Machine.execLineclear s
  | .reload => Sys2Proof.Machine.execReload s
  | .reloadPieceRead => Sys2Proof.Machine.execReloadPieceRead s
  | .outcomeWrite => Sys2Proof.Machine.execOutcomeWrite s
  | .requestConsumerWrite => Sys2Proof.Machine.execRequestConsumerWrite s
  | .noticeRecordWrite => Sys2Proof.Machine.execNoticeRecordWrite s
  | .noticeProducerWrite => Sys2Proof.Machine.execNoticeProducerWrite s
  | .imageWrite => Sys2Proof.Machine.execImageWrite s
  | .sendStart => Sys2Proof.Machine.execSendStart s
  | .linkTextRead => Sys2Proof.Machine.execLinkTextRead s
  | .linkShiftCompletion => Sys2Proof.Machine.execLinkShiftCompletion s
  | .lreadyAssert => Sys2Proof.Machine.execLreadyAssert s
  | .lreadyDeassert => Sys2Proof.Machine.execLreadyDeassert s
  | .lfaultAssert => Sys2Proof.Machine.execLfaultAssert s
  | .lfaultDeassert => Sys2Proof.Machine.execLfaultDeassert s
  | .linkTimeout => Sys2Proof.Machine.execLinkTimeout s
  | .lineShiftCompletion line => Sys2Proof.Machine.execLineShiftCompletion line s
  | .vacantPollEnd line => Sys2Proof.Machine.execVacantPollEnd line s
  | .answerWindowExpiry line => Sys2Proof.Machine.execAnswerWindowExpiry line s
  | .answerGapExpiry line => Sys2Proof.Machine.execAnswerGapExpiry line s
  | .startBitDetect line => Sys2Proof.Machine.execStartBitDetect line s
  | .receiveFrame line frame => Sys2Proof.Machine.execReceiveFrame line frame s
  | .breakDetect line => Sys2Proof.Machine.execBreakDetect line s
  | .resyncEnd line => Sys2Proof.Machine.execResyncEnd line s
  | .keyRingWrite => Sys2Proof.Machine.execKeyRingWrite s
  | .keyRingHeaderWrite => Sys2Proof.Machine.execKeyRingHeaderWrite s
  | .scanVisit => Sys2Proof.Machine.execScanVisit s
  | .rowTake => Sys2Proof.Machine.execRowTake s
  | .spacingFrameReturnToMarking line => Sys2Proof.Machine.execSpacingFrameReturnToMarking line s

end Sys2Proof.Machine
end

