-- ==== Sys2Proof/Machine/Step.lean ====
section
/-! DEFINITION. One step: the command at the front of the queue, or one period of REFCLK where none waits (log entry 3). -/

namespace Sys2Proof.Machine

/-- The command at the front of the queue is run with the rest of the queue; on an empty queue REFCLK goes on. -/
def step (s : State) : Host.Outcome State Fault Refusal :=
  match s.pending with
  | c :: rest => exec c (s.withPending rest)
  | [] => .next (refclkPeriod s)

/-- A command put at the front of the queue. -/
def State.push (s : State) (c : Instr) : State := s.withPending (c :: s.pending)

/-- The command that a word spells put at the front of the queue; the state unchanged where it spells none, as every word
does on this block (see `decodeTableWord`). -/
def State.withFetchWord (s : State) (nbits w : Nat) : State :=
  match decodeTableWord nbits w with
  | some c => s.push c
  | none => s

end Sys2Proof.Machine
end

