-- ==== Sys2Proof/Safety.lean ====
section
/-! DEFINITION. What statements about the machine are said in: which parts of the state a step leaves alone, how a request
is answered, and the invariants of the state. -/

namespace Sys2Proof.Machine

/-! ## Parts of the state -/

/-- The fields of `State`, by name. -/
inductive Region where
  | pins
  | part
  | cause
  | base
  | mem
  | path
  | engine
  | notices
  | marks
  | stories
  | baskets
  | copyfit
  | clock
  | pages
  | sendQueue
  | link
  | lines
  | terms
  | scanner
  | free
  | pending
  deriving DecidableEq, Repr

/-- The region is the same in two states. -/
def Region.same (s t : State) : Region → Prop
  | .pins => t.pins = s.pins
  | .part => t.part = s.part
  | .cause => t.cause = s.cause
  | .base => t.base = s.base
  | .mem => t.mem = s.mem
  | .path => t.path = s.path
  | .engine => t.engine = s.engine
  | .notices => t.notices = s.notices
  | .marks => t.marks = s.marks
  | .stories => t.stories = s.stories
  | .baskets => t.baskets = s.baskets
  | .copyfit => t.copyfit = s.copyfit
  | .clock => t.clock = s.clock
  | .pages => t.pages = s.pages
  | .sendQueue => t.sendQueue = s.sendQueue
  | .link => t.link = s.link
  | .lines => t.lines = s.lines
  | .terms => t.terms = s.terms
  | .scanner => t.scanner = s.scanner
  | .free => t.free = s.free
  | .pending => t.pending = s.pending

/-- Nothing outside the regions named differs between `s` and `t`. -/
def Frame (changed : List Region) (s t : State) : Prop := ∀ r, r ∉ changed → r.same s t

/-- Terminals differ at most by row 23 having become dirty, as the composition of status rows does (R151). -/
def StatusRowsOnly (s t : State) : Prop :=
  ∀ k, (t.term k).cfg = (s.term k).cfg ∧ (t.term k).ring = (s.term k).ring
    ∧ (t.term k).lastTaken = (s.term k).lastTaken
    ∧ ∀ r, (t.term k).dirty.at0 false r = (s.term k).dirty.at0 false r
        ∨ (r = 23 ∧ (t.term k).dirty.at0 false r = true)

/-- Marks were only appended to the mark list (R170). -/
def MarksGrow (s t : State) : Prop := ∃ l, t.marks = s.marks ++ l

/-- R6, R7, R151: an input of terminal `k`'s status row differs between `s` and `t`: the time, an edition record, the number
of FAULTED pages, its home basket or that basket's header, the story it holds or what R151 names of that story, its refused
flag, its key ring's overrun mark. -/
def InputsDiffer (s t : State) (k : Nat) : Prop :=
  let b := (s.term k).cfg.basket
  let r := s.story (s.heldBy k)
  let r' := t.story (t.heldBy k)
  t.clock.time ≠ s.clock.time ∨ (∃ e, 1 ≤ e ∧ e ≤ 4 ∧ t.edition e ≠ s.edition e)
    ∨ t.pages.entries.countP (fun g => g.state == .faulted) ≠ s.pages.entries.countP (fun g => g.state == .faulted)
    ∨ (t.term k).cfg.basket ≠ b
    ∨ (t.basket b).length ≠ (s.basket b).length
    ∨ (t.basket b).countP (fun n => (t.story n).urgent) ≠ (s.basket b).countP (fun n => (s.story n).urgent)
    ∨ (t.basket b).headD 0 ≠ (s.basket b).headD 0
    ∨ t.heldBy k ≠ s.heldBy k ∨ r'.state ≠ r.state ∨ r'.fit ≠ r.fit ∨ r'.d ≠ r.d ∨ r'.hole ≠ r.hole
    ∨ r'.leading ≠ r.leading
    ∨ t.notices.refused.at1 false k ≠ s.notices.refused.at1 false k ∨ (t.term k).overrunMark ≠ (s.term k).overrunMark

/-- R151: row 23 of a terminal became dirty only in RUNNING, at a terminal enabled before and after (log entry 15), where an
input of its status row changed and the text composed differs from the last-taken text. -/
def StatusRowsWhen (s t : State) : Prop :=
  ∀ k, (s.term k).dirty.at0 false 23 = false → (t.term k).dirty.at0 false 23 = true →
    t.part = .running ∧ s.enabled k = true ∧ t.enabled k = true ∧ InputsDiffer s t k
      ∧ (t.term k).lastTaken ≠ some (t.statusRow k)

/-- Outside the regions named, a step does nothing but mark images and status rows for writing and sending. -/
def OnlyMarks (changed : List Region) (s t : State) : Prop :=
  Frame (.marks :: .terms :: changed) s t ∧ StatusRowsOnly s t ∧ MarksGrow s t

/-- Outside the regions named, a step does nothing but mark images, and status rows as R151 says, for writing and sending. -/
def Only (changed : List Region) (s t : State) : Prop := OnlyMarks changed s t ∧ StatusRowsWhen s t

/-! ## Requests -/

/-- The arbiter grants the record read of a request of kind `k`, the part is RUNNING and the requester is known: the checks
of R162 pass (log entry 6). -/
def Asked (k : Nat) (s : State) : Prop :=
  s.grant = some .requestRead ∧ s.part = .running ∧ s.request.kind = k ∧ s.knownRequester s.request.requester = true

/-- The request has its outcome and note, and the record read has had its turn at the arbiter (R98, R162). -/
def Answered (o : ReqOutcome) (note : Nat) (s t : State) : Prop :=
  t.engine = { s.engine with progress := some (.answered o note .plain) }
    ∧ t.path = { s.path with turn := .drain, rot3 := 1 }

/-- The request commands with the codes of their kinds (R174). -/
def requestKinds : List (Instr × Nat) :=
  [(.register, 1), (.take, 2), (.returnStory, 3), (.file, 4), (.kill, 5), (.purge, 6), (.loadwidths, 7), (.style, 8),
    (.allot, 9), (.settime, 10), (.schedule, 11), (.hold, 12), (.setpage, 13), (.place, 14), (.unplace, 15),
    (.release, 16), (.reopen, 17), (.clear, 18), (.resume, 19), (.lineclear, 20), (.reload, 21)]

/-! ## Writes -/

/-- A write of `bs` at `a` has joined the write queue at the back with its memberships and the next sequence number, and
nothing else of the path unit but the latched context and the held write differs (R89, R90). -/
def Queued (a : Nat) (bs : List Byte) (members : List (List Membership)) (s t : State) : Prop :=
  t.path.queue = s.path.queue ++ [⟨a, bs, members, s.path.counter⟩]
    ∧ t.path.counter = (s.path.counter + 1) % 65536
    ∧ t.path.read = s.path.read ∧ t.path.readData = s.path.readData ∧ t.path.turn = s.path.turn
    ∧ t.path.rot1 = s.path.rot1 ∧ t.path.rot3 = s.path.rot3 ∧ t.path.rot5 = s.path.rot5

/-! ## The memory that a reset leaves (R101) -/

/-- The command that serves an operation of the memory side which writes. -/
def writeCommand : MemOp → Option Instr
  | .drain => some .drain
  | .keyRecord _ => some .keyRingWrite
  | .keyHeader _ _ => some .keyRingHeaderWrite
  | .outcomeWrite => some .outcomeWrite
  | .consumerWord => some .requestConsumerWrite
  | .noticeRecord => some .noticeRecordWrite
  | .producerWord => some .noticeProducerWrite
  | .image _ => some .imageWrite
  | .processorRead => none
  | .linkText => none
  | .requestRead => none
  | .reloadPiece => none
  | .rowRead => none
  | .recountPiece => none
  | .widthPiece => none

/-- R101: memory is as it was, or as the operation in progress leaves it, the one that the arbiter grants (log entry 6). -/
def MemoryKept (s t : State) : Prop :=
  t.mem = s.mem
    ∨ ∃ o c u, s.grant = some o ∧ writeCommand o = some c ∧ exec c s = .next u ∧ t.mem = u.mem

/-! ## Writes at their entry (R88, R89, R94, R95, R100 to R107) -/

/-- R85, R89: the command presents, or lets enter, the write of `bs` at `a` while the write queue has room. -/
def Presents (c : Instr) (a : Nat) (bs : List Byte) (s : State) : Prop :=
  s.path.read = none ∧ s.path.queue.length < 8
    ∧ ((s.path.held = none ∧ ∃ (x : BusAddr) (d : BusData), (c = .writeEntry x d ∨ c = .misalignedWrite x d)
          ∧ x.toNat = a ∧ busBytes d = bs)
      ∨ (s.path.held = none ∧ ∃ v : BitVec 32, c = .contextWordWrite v ∧ s.base + 0x100 = a ∧ toLE 4 v.toNat = bs)
      ∨ (s.path.held = some ⟨a, bs⟩ ∧ c = .heldWriteEntry))

/-- R102: the kind of the latched context. -/
def contextOf (s : State) : ContextKind :=
  if s.path.context = 0 then .system
  else if s.path.context ≤ 64 ∧ (s.term s.path.context).cfg.enabled = true then .terminal s.path.context
  else .unknown

/-- R107: the terminal field of a GUARD, IMAGE or BUSFORM notice. -/
def namedContext (s : State) : Option Nat := if s.path.context ≤ 64 then some s.path.context else none

/-- R1, R88: the address lies in the text block of registered story `n`. -/
def InText (s : State) (n x : Nat) : Prop :=
  1 ≤ n ∧ n ≤ 511 ∧ (s.story n).state ≠ .free ∧ (s.story n).base ≤ x ∧ x < (s.story n).base + 256 * (s.story n).capacity

/-- R62, R103: the story's edition is in LOCKOUT, GRACE or CLOSED; edition 0 and an unscheduled edition never count. -/
def Restricted (s : State) (r : Story) : Prop :=
  r.edition ≠ 0 ∧ (s.edition r.edition).scheduled = true ∧ (s.edition r.edition).state ≠ .opened

/-- R103: the table of the entry check for text, row by row, with the cause of each refusal; none accepts. -/
def TextVerdict (s : State) (r : Story) (v : Option Cause) : Prop :=
  match r.state, contextOf s with
  | .free, _ => v = none
  | .sending, _ => v = some .inSend
  | .set, _ => v = some .set
  | .filed, .system => v = none
  | .filed, .terminal _ => v = some .notHolder
  | .filed, .unknown => v = some .unknown
  | .killed, .system => v = none
  | .killed, .terminal _ => v = some .notHolder
  | .killed, .unknown => v = some .unknown
  | .held, .system => v = none
  | .held, .terminal t =>
    (r.holder ≠ t → v = some .notHolder)
      ∧ (r.holder = t → Restricted s r → (s.term t).cfg.rank ≠ .slot → v = some .restricted)
      ∧ (r.holder = t → (¬Restricted s r ∨ (s.term t).cfg.rank = .slot) → v = none)
  | .held, .unknown => v = some .unknown
  | .queued, .system => v = none
  | .queued, .terminal t => v = if (s.term t).cfg.rank = .slot then none else some .released
  | .queued, .unknown => v = some .unknown

/-- R88, R105, R160: the address is part-written in the control area: the four words, the notice ring, an image region. -/
def InControlPart (s : State) (x : Nat) : Prop :=
  s.base ≤ x ∧ (let o := x - s.base
    (0x110 ≤ o ∧ o < 0x120) ∨ (0x600 ≤ o ∧ o < 0xA00) ∨ (0xE00 ≤ o ∧ o < 0xEC0) ∨ (0xF00 ≤ o ∧ o < 0xFC0)
      ∨ (0x1000 ≤ o ∧ o < 0x6860) ∨ (0x6C00 ≤ o ∧ o < 0x6D00) ∨ (0x7000 ≤ o ∧ o < 0x7380))

/-- R88, R105, R177: the address is the producer index or the overrun mark of an enabled terminal's key ring header. -/
def InRingPart (s : State) (x : Nat) : Prop :=
  s.part = .running ∧ ∃ k, 1 ≤ k ∧ k ≤ 64 ∧ (s.term k).cfg.enabled = true
    ∧ (s.term k).cfg.ring ≤ x ∧ x < (s.term k).cfg.ring + 2

/-- R107: the IMAGE notice of a refusal with cause `c`. -/
def imageNotice (s : State) (c : Cause) : Notice :=
  { kind := .image, terminal := namedContext s, page := none, cause := c, story := 0, unit := none, graceCount := 0,
    time := s.clock.time, graceEnd := 0 }

/-- R107: the GUARD notice of a refusal of the text of story `n` with cause `c`. -/
def guardNotice (s : State) (n : Nat) (c : Cause) : Notice :=
  { kind := .guard, terminal := namedContext s, page := (s.story n).placement.map (·.1), cause := c, story := n,
    unit := none, graceCount := 0, time := s.clock.time, graceEnd := 0 }

/-- R89, R103, R105, R107: the aligned write of `n` bytes at `a` is refused, and `q` is its notice, made from the part-written
byte with the lowest address, or, where none is part-written, from the refused text byte with the lowest address. -/
def IsRefused (s : State) (a n : Nat) (q : Notice) : Prop :=
  (∃ i, i < n ∧ (∀ j, j < i → ¬InControlPart s (a + j) ∧ ¬InRingPart s (a + j))
    ∧ ((InControlPart s (a + i) ∧ q = imageNotice s .control)
      ∨ (¬InControlPart s (a + i) ∧ InRingPart s (a + i) ∧ q = imageNotice s .keyRing)))
  ∨ ((∀ i, i < n → ¬InControlPart s (a + i) ∧ ¬InRingPart s (a + i)) ∧ s.part = .running
    ∧ ∃ i m c, i < n ∧ InText s m (a + i) ∧ TextVerdict s (s.story m) (some c) ∧ q = guardNotice s m c
      ∧ (∀ k, k < m → InText s k (a + i) → TextVerdict s (s.story k) none)
      ∧ ∀ j k, j < i → InText s k (a + j) → TextVerdict s (s.story k) none)

/-- R88, R94, R100: the byte at `x` of an accepted aligned write of `n` bytes at `a` has the membership, plain set aside. In
NOT CONFIGURED the live words alone count; a live word counts when the write covers it whole. -/
def HasMembership (s : State) (a n x : Nat) : Membership → Prop
  | .text m off => s.part = .running ∧ InText s m x ∧ off = x - (s.story m).base
  | .screen k => s.part = .running ∧ 1 ≤ k ∧ k ≤ 64 ∧ (s.term k).cfg.enabled = true
      ∧ (s.term k).cfg.screen ≤ x ∧ x < (s.term k).cfg.screen + 1840
  | .contextWord => s.base + 0x100 ≤ x ∧ x < s.base + 0x104 ∧ a ≤ s.base + 0x100 ∧ s.base + 0x104 ≤ a + n
  | .requestProducer => s.base + 0x104 ≤ x ∧ x < s.base + 0x108 ∧ a ≤ s.base + 0x104 ∧ s.base + 0x108 ≤ a + n
  | .noticeConsumer => s.base + 0x108 ≤ x ∧ x < s.base + 0x10C ∧ a ≤ s.base + 0x108 ∧ s.base + 0x10C ≤ a + n
  | .keyConsumer k => s.part = .running ∧ 1 ≤ k ∧ k ≤ 64 ∧ (s.term k).cfg.enabled = true
      ∧ (s.term k).cfg.ring + 2 ≤ x ∧ x < (s.term k).cfg.ring + 4
      ∧ a ≤ (s.term k).cfg.ring + 2 ∧ (s.term k).cfg.ring + 4 ≤ a + n
  | .hostLocation => s.part = .running ∧ s.base ≤ x
      ∧ (x < s.base + 0x100 ∨ (s.base + 0x200 ≤ x ∧ x < s.base + 0x600) ∨ (s.base + 0xA00 ≤ x ∧ x < s.base + 0xE00))
  | .partWritten _ => False
  | .plain => False

/-- R88: `members` lists for each byte every membership it has, and plain for a byte that has no other. -/
def MembersOf (s : State) (a n : Nat) (members : List (List Membership)) : Prop :=
  members.length = n ∧ ∀ i, i < n → ∀ m, m ∈ members.getD i [] ↔
    HasMembership s a n (a + i) m ∨ (m = .plain ∧ ∀ m', ¬HasMembership s a n (a + i) m')

/-- R94: the write of `n` bytes at `a` covers part of a live word, and not all of it. -/
def PartWord (s : State) (a n : Nat) : Prop :=
  ∃ lo w i, i < n ∧ lo ≤ a + i ∧ a + i < lo + w ∧ ¬(a ≤ lo ∧ lo + w ≤ a + n)
    ∧ ((w = 4 ∧ (lo = s.base + 0x100 ∨ lo = s.base + 0x104 ∨ lo = s.base + 0x108))
      ∨ (s.part = .running ∧ w = 2 ∧ ∃ k, 1 ≤ k ∧ k ≤ 64 ∧ (s.term k).cfg.enabled = true ∧ lo = (s.term k).cfg.ring + 2))

/-- R94, R95: the notice writer after a BUSFORM notice of a transfer of `n` bytes at `a`. -/
def State.busformNoted (s : State) (a n : Nat) (c : Cause) : NoticeWriter :=
  (s.notify { s.notice .busform c with
    terminal := namedContext s, story := (s.storiesTouched a n).headD 0 }).notices

/-- Two notice writers differ at most in the refused flags. -/
def FlagsOnly (w w' : NoticeWriter) : Prop :=
  w' = { w with refusedSystem := w'.refusedSystem, refusedUnknown := w'.refusedUnknown, refused := w'.refused }

/-! ## Text drains (R29, R88) -/

/-- R88: a membership of text. -/
def Membership.isText : Membership → Bool
  | .text _ _ => true
  | .screen _ => false
  | .contextWord => false
  | .requestProducer => false
  | .noticeConsumer => false
  | .keyConsumer _ => false
  | .partWritten _ => false
  | .hostLocation => false
  | .plain => false

/-! ## Uncounted writes and loads of a font (R27, R31, R35) -/

/-- R27, R31: the record of a story that an uncounted write or a load of its font puts into recount. -/
def Story.intoRecount (r : Story) : Story :=
  if r.state = .free ∨ r.state = .killed then r
  else match r.recount with
    | .idle => { r with recount := .waiting, fit := .counting }
    | .waiting => r
    | .counting => { r with u := 0, p := 0 }

/-- R27, R31, R32, R35: from `s` to `t` the stories named by `into` go into recount: the IDLE ones join the list `l` at its
back in ascending number with no drain tag, and a COUNTING one starts again from the beginning of its block. -/
def Recounted (into : Nat → Bool) (l : List RecountEntry) (s t : State) : Prop :=
  let counts := fun n => into n && (s.story n).state != .free && (s.story n).state != .killed
  (∀ n, t.story n = if (1 ≤ n ∧ n ≤ 511) ∧ into n = true then (s.story n).intoRecount else s.story n)
    ∧ t.copyfit.list = l ++ (storyNumbers.filter (fun n => counts n && (s.story n).recount == .idle)).map (fun n => ⟨n, none⟩)
    ∧ t.copyfit.cursor =
        if storyNumbers.any (fun n => counts n && (s.story n).recount == .counting) = true then 0 else s.copyfit.cursor

/-! ## Editions (R54 to R56, R60, R61) -/

/-- R55, R56: the record when a grace window begins at `time`. -/
def Edition.window (r : Edition) (time grace : Nat) : Edition :=
  { r with state := .grace, graceEnd := min 86399 (time + grace * 60), graceCount := r.graceCount + 1 }

/-- R55: the record after the close step, for an edition in LOCKOUT. -/
def Edition.atClose (r : Edition) (time grace : Nat) : Edition :=
  if time < r.close then r
  else if r.armed then ({ r with armed := false } : Edition).window time grace
  else { r with state := .closed }

/-- R53 to R56: the record that an evaluation at `time` leaves, with grace length `grace`. -/
def Edition.evaluated (r : Edition) (time grace : Nat) : Edition :=
  if r.scheduled = false then r
  else match r.state with
    | .opened => if time < r.lockout then r else ({ r with state := .lockout } : Edition).atClose time grace
    | .lockout => r.atClose time grace
    | .grace =>
      if time < r.graceEnd then r
      else if r.latched then ({ r with latched := false } : Edition).window time grace
      else { r with state := .closed }
    | .closed => r

/-- R60: a story that keeps its page from qualifying: not FILED, or its fit not FITS. -/
def unreadyStory (s : State) (n : Nat) : Bool := (s.story n).state != .filed || (s.story n).fit != .fits

/-- R60: the pages that the close of edition `e` takes, in ascending index. -/
def takenPages (s : State) (e : Nat) : List Nat :=
  (List.range 96).filter (fun p => (s.page p).state == .makeup && (s.page p).edition == e)

/-- R60: the page qualifies for auto-release. -/
def pageReady (s : State) (p : Nat) : Bool :=
  (s.page p).placements != [] && (s.page p).placements.all (fun q => !unreadyStory s q.story)

/-- R55, R56, R61: the notices of the close of edition `e`: LATE for each page that does not qualify, and then CLOSED. -/
def closeNotices (s : State) (e : Nat) : List Notice :=
  ((takenPages s e).filter (fun p => !pageReady s p)).map (fun p => ({
      kind := .late, terminal := none, page := some p, cause := .noCause
      story := (((s.page p).placements.map (·.story)).find? (unreadyStory s)).getD 0
      unit := some e, graceCount := 0, time := s.clock.time, graceEnd := 0 } : Notice))
    ++ [{ kind := .closed, terminal := none, page := none, cause := .noCause, story := 0, unit := some e, graceCount := 0,
          time := s.clock.time, graceEnd := 0 }]

/-- R18, R60, R61, R74: what the close of edition `e` does to pages, send queue, stories, baskets and notices, where no story
is placed twice. -/
def Closed (e : Nat) (s t : State) : Prop :=
  let ready := (takenPages s e).filter (pageReady s)
  let out := ready.flatMap (fun p => (s.page p).placements.map (·.story))
  (∀ p, t.page p = if p ∈ takenPages s e then
      { s.page p with state := if pageReady s p = true then .queued else .late } else s.page p)
    ∧ t.sendQueue = s.sendQueue ++ ready
    ∧ (∀ n, t.story n = if n ∈ out then { s.story n with state := .queued, basket := 0 } else s.story n)
    ∧ (∀ b, t.basket b = (out.filter (fun n => (s.story n).basket == b)).foldl (fun l n => l.erase n) (s.basket b))
    ∧ t.notices = ((closeNotices s e).foldl State.notify s).notices

/-- R55, R56: the GRACE notice of edition `e`, whose record is `r` once the window has begun. -/
def graceNotice (s : State) (e : Nat) (r : Edition) : Notice :=
  { kind := .grace, terminal := none, page := none, cause := .noCause, story := 0, unit := some e
    graceCount := r.graceCount, time := s.clock.time, graceEnd := r.graceEnd }

/-- R53 to R56, R60, R61: what the evaluation of edition `e`, which takes its record from `r` to `r'`, does besides. -/
def EvaluationDoes (e : Nat) (r r' : Edition) (s t : State) : Prop :=
  (r.state ≠ .closed ∧ r'.state = .closed → Closed e s t)
    ∧ (¬(r.state ≠ .closed ∧ r'.state = .closed) →
        t.pages = s.pages ∧ t.sendQueue = s.sendQueue ∧ t.stories = s.stories ∧ t.baskets = s.baskets
        ∧ t.notices = (if r'.graceCount = r.graceCount then s.notices else (s.notify (graceNotice s e r')).notices))

/-- R53: the editions of the list are evaluated one after another, each against the records as the one before left them. -/
def EvaluatedInTurn : List Nat → State → State → Prop
  | [], s, t => t.pages = s.pages ∧ t.sendQueue = s.sendQueue ∧ t.stories = s.stories ∧ t.baskets = s.baskets
      ∧ t.notices = s.notices ∧ ∀ d, t.edition d = s.edition d
  | e :: l, s, t => ∃ u : State, u.clock.time = s.clock.time ∧ u.clock.grace = s.clock.grace
      ∧ u.edition e = (s.edition e).evaluated s.clock.time s.clock.grace ∧ (∀ d, d ≠ e → u.edition d = s.edition d)
      ∧ EvaluationDoes e (s.edition e) (u.edition e) s u ∧ EvaluatedInTurn l u t

/-- R48: an edition record after the day rollover. -/
def Edition.rolled (r : Edition) : Edition :=
  { r with state := .opened, graceCount := 0, armed := false, latched := false, graceEnd := 0 }

/-! ## The link (R116, R121, R124) -/

/-- R116, R121: `l'` is `l`, the link in a send with context `c`, after an event with LREADY as `ready`. A frame held moves to
an empty shift register when LREADY is asserted, and a holding buffer that is empty takes the next frame of the stream, if it is
ready, with the context that follows it; the frame taken may move at once, and the one after it is then taken. -/
def LinkGoesOn (s : State) (c : SendCtx) (ready : Bool) (l l' : Link) : Prop :=
  let first := s.nextFrame c
  let second := s.nextFrame first.2
  let moves := l.shift = none ∧ ready = true
  (∀ f, l.hold = some f →
      (moves → l' = { l with shift := some f, hold := first.1, ctx := some first.2 }) ∧ (¬moves → l' = l))
  ∧ (l.hold = none →
      (∀ f, first.1 = some f → moves → l' = { l with shift := some f, hold := second.1, ctx := some second.2 })
      ∧ ((first.1 = none ∨ ¬moves) → l' = { l with hold := first.1, ctx := some first.2 }))

/-- R124: the resume point that a fault records, row by row: from the frame in the shift register, or else the one in the
holding buffer, or else the next the stream would produce. -/
def resumePoint (s : State) (c : SendCtx) : Nat × Nat :=
  let off := fun (i : Nat) => if i = c.startPos then c.startOff else 0
  let point := fun (o : Origin) => match o with
    | .pageStart => (c.startPos, c.startOff)
    | .setup i => (i, off i)
    | .text i x => (i, x)
    | .storyEnd i => (i, off i)
    | .pageEnd => (c.placements.length, 0)
  match s.link.shift, s.link.hold with
  | some f, _ => point f.origin
  | none, some f => point f.origin
  | none, none => match c.pos with
    | .pageStart _ => (c.startPos, c.startOff)
    | .setup i _ => (i, off i)
    | .text i x =>
      match c.placements[i]? with
      | some q => if x < 256 * (s.story q.story).capacity then (i, x) else (i, off i)
      | none => (i, off i)
    | .pageEnd => (c.placements.length, 0)
    | .finished => (c.placements.length, 0)

/-! ## Lines (R133 to R138, R143) -/

/-- R131: a frame on TXD, first bit first, `true` the marking level: the start bit, the eight data bits least significant
first, the mark bit on a SHARED line, the parity bit unless parity is NONE, which makes the number of ones even under EVEN and
odd under ODD, and one or two stop bits. -/
def wireBits (c : LineCfg) (mark : Bool) (data : Byte) : List Bool :=
  let carried := (List.range 8).map (fun i => data.getLsbD i) ++ (if c.mode = .shared then [mark] else [])
  let ones := (carried.filter (fun b => b)).length
  [false] ++ carried
    ++ (match c.parity with
      | .off => []
      | .even => [decide (ones % 2 = 1)]
      | .odd => [decide (ones % 2 = 0)])
    ++ (if c.twoStop then [true, true] else [true])

/-- R133, R179: frame `k` of a row on the wire, for a terminal with drop `d`. -/
def wireFrame (c : LineCfg) (d : Nat) (q : RowRec) (k : Nat) : TxFrame :=
  let bytes := [0x11#8, BitVec.ofNat 8 q.row] ++ q.snapshot
  match c.mode with
  | .direct => ⟨false, bytes.getD k 0#8, .row (decide (k = 81)), wireBits c false (bytes.getD k 0#8)⟩
  | .shared =>
    if k = 0 then ⟨true, BitVec.ofNat 8 (0x20 + d), .row false, wireBits c true (BitVec.ofNat 8 (0x20 + d))⟩
    else ⟨false, bytes.getD (k - 1) 0#8, .row (decide (k = 82)), wireBits c false (bytes.getD (k - 1) 0#8)⟩

/-- R136, R179: the POLL frame for drop `d`. -/
def pollFrame (c : LineCfg) (d : Nat) : TxFrame :=
  ⟨true, BitVec.ofNat 8 (0x40 + d), .poll, wireBits c true (BitVec.ofNat 8 (0x40 + d))⟩

/-- R133, R135: `l'` is `l`, whose holding buffer is empty, with its oldest row begun. With the shift register empty the first
frame is being sent and the second is held; otherwise the first is held. `dropOf` gives a terminal's drop. -/
def RowBegun (dropOf : Nat → Nat) (l l' : Line) : Prop :=
  ∀ q rest, l.queue = q :: rest →
    let frame := wireFrame l.cfg (dropOf q.terminal) q
    (l.shift = none → l' = { l with tx := .row, rowPos := 2, shift := some (frame 0), hold := some (frame 1) })
    ∧ (l.shift ≠ none → l' = { l with tx := .row, rowPos := 1, hold := some (frame 0) })

/-- R136: a drop that may be polled. -/
def Pollable : Option Drop → Bool
  | some r => r.state == .up || decide (7 ≤ r.rest)
  | none => false

/-- R136: a drop record after a poll of `polled` (none: a vacant poll). -/
def restedDrop (polled : Option Nat) (d : Nat) (r : Option Drop) : Option Drop :=
  r.map (fun x =>
    if polled = some d then { x with rest := 0 }
    else if x.state = .down then { x with rest := min 7 (x.rest + 1) } else x)

/-- R136: the drops in the order in which a poll step looks at them. -/
def pollOrder (l : Line) : List Nat := (List.range 4).map (fun i => (l.pollPtr.getD 3 + 1 + i) % 4)

/-- R135, R136: `l'` is `l`, whose holding buffer is empty, after the poll step. The POLL frame is held while the shift
register is not empty. -/
def PollStepped (l l' : Line) : Prop :=
  ((∀ d, d < 4 → l.drops.at0 none d = none) → l' = { l with tx := .idle })
  ∧ ((∃ d, d < 4 ∧ l.drops.at0 none d ≠ none) →
      let polled := (pollOrder l).find? (fun d => Pollable (l.drops.at0 none d))
      let frame := polled.map (pollFrame l.cfg)
      (∀ d, d < 4 → l'.drops.at0 none d = restedDrop polled d (l.drops.at0 none d))
      ∧ l' = { l with
          tx := if polled = none then .vacant else .poll
          drops := l'.drops
          pollPtr := polled.or l.pollPtr
          shift := if l.shift = none then frame else l.shift
          hold := if l.shift = none then none else frame })

/-- R135: `l'` is `l`, whose holding buffer is empty, after the end of a poll: the oldest row, or the poll step. -/
def PollOver (dropOf : Nat → Nat) (l l' : Line) : Prop :=
  if l.queue = [] then PollStepped l l' else RowBegun dropOf l l'

/-- R135: `l'` is `l`, whose holding buffer is empty, after the end of a row: the oldest row or IDLE on a DIRECT line, the
poll step on a SHARED one. -/
def RowOver (dropOf : Nat → Nat) (l l' : Line) : Prop :=
  match l.cfg.mode with
  | .direct => if l.queue = [] then l' = { l with tx := .idle } else RowBegun dropOf l l'
  | .shared => PollStepped l l'

/-- R133: the transmitter has no frame to move and none to produce. -/
def Settled (l : Line) : Prop :=
  (l.hold = none ∨ l.shift ≠ none)
    ∧ (l.tx = .row → l.hold ≠ none ∨ (if l.cfg.mode = .direct then 82 else 83) ≤ l.rowPos)

/-- R134, R135, R155: `l'` is the active line `l` after the records have joined the back of its row queue. An IDLE line leaves
IDLE in the same event; a line that is sending, polling or waiting goes on as it was. -/
def RecordsJoin (dropOf : Nat → Nat) (l : Line) (records : List RowRec) (l' : Line) : Prop :=
  let joined : Line := { l with queue := l.queue ++ records }
  (l.tx = .idle → l.hold = none → RowOver dropOf joined l') ∧ (l.tx ≠ .idle → Settled l → l' = joined)

/-! ## A RELOAD and the lines (R132) -/

/-- R131: a line with this configuration is active in a part of this state. -/
def ActiveIn (p : PartState) (c : LineCfg) : Bool := p == .running && c.enabled && c.divisor != 0

/-- R132: mode, divisor, parity and stop bits are the same. -/
def SameFraming (a b : LineCfg) : Bool :=
  a.mode == b.mode && a.divisor == b.divisor && a.parity == b.parity && a.twoStop == b.twoStop

/-- R132: the terminal with record `a` is enabled on line `n`, and with record `b` it is not, or is on another drop. -/
def Leaves (n : Nat) (a b : TermCfg) : Bool :=
  a.enabled && a.line == n && !(b.enabled && b.line == n && b.drop == a.drop)

/-- The lowest-numbered terminal that `map` enables on line `n` and drop `d`; R167 lets no two be there. -/
def onDrop (map : Nat → TermCfg) (n d : Nat) : Option Nat :=
  terminalNumbers.find? (fun k => (map k).enabled && (map k).line == n && (map k).drop == d)

/-- R132, R139: drop `d` of line `n`, with configuration `cfg`, after a RELOAD. `before` is its record, `old` and `new` the
terminal there before and after. A line that does not start keeps the record of a drop whose terminal stays, and one that is
not active gets no new record (log entry 18). -/
def dropAfterReload (cfg : LineCfg) (started stays : Bool) (old new : Option Nat) (before : Option Drop) : Option Drop :=
  if cfg.mode = .direct ∨ new = none then none
  else if started = true then some ⟨.up, 0, 0⟩
  else if old = new then before
  else if stays = true then some ⟨.up, 0, 0⟩
  else none

/-- A frame in the shift register that no row or poll waits for any more. -/
def orphaned (f : Option TxFrame) : Option TxFrame := f.map (fun x => { x with kind := .orphan })

/-- R138: the polled drop's record after an answered poll. -/
def Drop.answered (r : Drop) : Drop := { r with state := .up, miss := 0 }

/-- R138: the polled drop's record after a missed poll. -/
def Drop.missed (r : Drop) : Drop :=
  if r.state = .down then r
  else if 3 ≤ r.miss + 1 then ⟨.down, r.miss + 1, 0⟩ else { r with miss := r.miss + 1 }

/-- R143: the notice writer after a LINE notice of line `n`, which is written if the flag was clear. -/
def State.lineNoted (s : State) (n : Nat) (was : Bool) (c : Cause) (terminal : Option Nat) : State :=
  if was then s else s.notify { s.notice .line c with terminal := terminal, unit := some n }

/-- R138: the notice writer after the end of a poll that took a drop's record from `r` to `r'`. -/
def State.dropNoted (s : State) (n : Nat) (r r' : Drop) (terminal : Option Nat) : State :=
  if r.state = r'.state then s
  else s.notify { s.notice .drop (if r'.state = .up then .up else .down) with terminal := terminal, unit := some n }

/-- R131: the number of ones of a frame among its data bits, its mark bit on a SHARED line, and its parity bit if it has one. -/
def onesOf (c : LineCfg) (f : RxFrame) : Nat :=
  ((List.range 8).filter (fun i => f.data.getLsbD i)).length + (if c.mode = .shared ∧ f.mark = true then 1 else 0)
    + (if c.parity ≠ .off ∧ f.parity = true then 1 else 0)

/-- R140: every bit of the frame that the line's framing has is at the spacing level. -/
def AllSpacing (c : LineCfg) (f : RxFrame) : Prop :=
  onesOf c f = 0 ∧ f.stop1 = false ∧ (c.twoStop = true → f.stop2 = false)

/-- R140, R141: the cause with which a completed frame that is not all spacing sets ERROR, or none for a good frame. -/
def frameError (c : LineCfg) (f : RxFrame) : Option Cause :=
  if (c.parity = .even ∧ onesOf c f % 2 = 1) ∨ (c.parity = .odd ∧ onesOf c f % 2 = 0) then some .parity
  else if f.stop1 = false ∨ (c.twoStop = true ∧ f.stop2 = false) then some .framing
  else none

/-! ## The scanner (R153, R154) -/

/-- R153: terminal `k` is eligible for a visit. -/
def Visitable (s : State) (k : Nat) : Prop :=
  let c := (s.term k).cfg
  let l := s.line c.line
  c.enabled = true ∧ s.part = .running ∧ l.cfg.enabled = true ∧ l.cfg.divisor ≠ 0
    ∧ (l.cfg.mode = .shared → ∃ r, l.drops.at0 none c.drop = some r ∧ r.state = .up)
    ∧ (∃ r, r < 24 ∧ (s.term k).dirty.at0 false r = true) ∧ l.queue.length < 4

/-- R154: the slice of a visit to terminal `k`, which holds at most one story. -/
def sliceOf (s : State) (k : Nat) : Nat :=
  let e := (s.story (s.heldBy k)).edition
  if s.heldBy k ≠ 0 ∧ e ≠ 0 ∧ (s.edition e).scheduled = true
      ∧ ((s.edition e).state = .lockout ∨ (s.edition e).state = .grace) then s.scanner.slice2
  else s.scanner.slice1

/-- R154: after a take that leaves the dirty set `dirty` and `queued` records in the row queue, the visit `v` is over. -/
def VisitOver (v : Visit) (dirty : Nat → Bool) (queued : Nat) : Prop :=
  v.slice ≤ v.taken ∨ (∀ r, r < 24 → dirty r = false) ∨ 4 ≤ queued

/-- R154, R155: the scanner `c'` has asked for the lowest dirty row in the visit `v`. -/
def RowAsked (s : State) (v : Visit) (dirty : Nat → Bool) (c c' : Scanner) : Prop :=
  ∃ r, r < 24 ∧ dirty r = true ∧ (∀ j, j < r → dirty j = false)
    ∧ c' = { c with visit := some v, take := some ⟨v.terminal, r, (s.term v.terminal).cfg.screen + 80 * r, false⟩ }

/-! ## The arbiter (R97, R98) -/

/-- R97: the class of an engine operation; 0 for a processor read and for a drain. -/
def MemOp.rank : MemOp → Nat
  | .processorRead => 0
  | .drain => 0
  | .keyRecord _ => 1
  | .keyHeader _ _ => 1
  | .linkText => 2
  | .requestRead => 3
  | .outcomeWrite => 3
  | .consumerWord => 3
  | .reloadPiece => 3
  | .noticeRecord => 3
  | .producerWord => 3
  | .image _ => 3
  | .rowRead => 4
  | .recountPiece => 5
  | .widthPiece => 5

/-- R98: the place of an engine operation's requester in its class's order, counted from 0. -/
def MemOp.requester : MemOp → Nat
  | .keyRecord n => n
  | .keyHeader n _ => n
  | .noticeRecord => 1
  | .producerWord => 1
  | .image _ => 2
  | .widthPiece => 1
  | .processorRead => 0
  | .drain => 0
  | .linkText => 0
  | .requestRead => 0
  | .outcomeWrite => 0
  | .consumerWord => 0
  | .reloadPiece => 0
  | .rowRead => 0
  | .recountPiece => 0

/-- R98: the number of requesters of a class. -/
def classSize (k : Nat) : Nat := if k = 1 then 16 else if k = 3 then 3 else if k = 5 then 2 else 1

/-- R98: the requester that a class's rotation looks at first. -/
def rotationOf (s : State) (k : Nat) : Nat :=
  if k = 1 then s.path.rot1 else if k = 3 then s.path.rot3 else if k = 5 then s.path.rot5 else 0

/-- R98: how many requesters of its class the rotation looks at before the operation's. -/
def rotationDistance (s : State) (o : MemOp) : Nat :=
  (o.requester + classSize o.rank - rotationOf s o.rank % classSize o.rank) % classSize o.rank

/-- R170: what may be written in each part state. -/
def MayWrite (p : PartState) (i : MarkItem) : Prop :=
  p = .running ∨ i = .partState ∨ (p = .passThrough ∧ i = .time)

/-- R26, R34, R86, R91, R110, R120, R121, R144, R145, R155, R161 to R163, R166, R170: the operation waits for the memory
side. -/
def Waits (s : State) : MemOp → Prop
  | .processorRead => s.path.read ≠ none
  | .drain => s.path.queue ≠ []
  | .keyRecord n => s.part = .running ∧ n < 16 ∧ (s.line n).buffer ≠ none
  | .keyHeader n k =>
    let asks := fun j => (s.term j).cfg.enabled = true ∧ (s.term j).cfg.line = n
      ∧ ∃ g, (s.term j).ring = some g ∧ g.headerAsked = true
    s.part = .running ∧ n < 16 ∧ (s.line n).buffer = none ∧ 1 ≤ k ∧ k ≤ 64 ∧ asks k ∧ ∀ j, 1 ≤ j → j < k → ¬asks j
  | .linkText => s.link.state = .sending ∧ s.link.hold = none
    ∧ ∃ c i x q, s.link.ctx = some c ∧ c.tag = none ∧ c.piece = [] ∧ c.pos = .text i x ∧ c.placements[i]? = some q
        ∧ x < 256 * (s.story q.story).capacity
  | .requestRead => s.engine.progress = none ∧ s.part ≠ .passThrough ∧ s.engine.consumer ≠ s.engine.latest
  | .outcomeWrite => ∃ o note after, s.engine.progress = some (.answered o note after)
  | .consumerWord => s.engine.progress = some .indexWord ∧ s.engine.wordFlag = true
  | .reloadPiece => ∃ bytes, s.engine.progress = some (.reloading bytes)
  | .noticeRecord => s.notices.unwritten ≠ []
  | .producerWord => s.notices.unwritten = [] ∧ s.notices.wordFlag = true
  | .image i => ∃ before after, s.marks = before ++ i :: after ∧ MayWrite s.part i ∧ ∀ j ∈ before, ¬MayWrite s.part j
  | .rowRead => s.part = .running ∧ s.scanner.take ≠ none
  | .recountPiece => s.part = .running ∧ ∃ e l, s.copyfit.list = e :: l ∧ (s.story e.story).recount = .counting
  | .widthPiece => ∃ f src ws c, s.engine.progress = some (.loadingWidths f src ws c)

/-- R97, R98: the engine operation that step 3 grants: of the highest class that has one waiting, the first in rotation. -/
def EngineChoice (s : State) (o : MemOp) : Prop :=
  1 ≤ o.rank ∧ Waits s o ∧ ∀ o', 1 ≤ o'.rank → Waits s o' →
    o.rank < o'.rank ∨ (o.rank = o'.rank ∧ rotationDistance s o ≤ rotationDistance s o')

/-- The command serves the operation in the state: the request commands serve the record read of a record of their kind, and
the live-word commands the drain of an entry that carries their word. -/
inductive Serves (s : State) : Instr → MemOp → Prop
  | read : Serves s .processorReadData .processorRead
  | drain : Serves s .drain .drain
  | producer (e q ms) : s.part ≠ .passThrough → s.path.queue = e :: q → ms ∈ e.members → .requestProducer ∈ ms →
      Serves s .requestProducerIndexWrite .drain
  | consumer (e q ms) : s.part ≠ .passThrough → s.path.queue = e :: q → ms ∈ e.members → .noticeConsumer ∈ ms →
      Serves s .noticeConsumerIndexWrite .drain
  | ring (e q ms k) : s.part ≠ .passThrough → s.path.queue = e :: q → ms ∈ e.members → .keyConsumer k ∈ ms →
      Serves s .keyRingConsumerWrite .drain
  | key (n) : Serves s .keyRingWrite (.keyRecord n)
  | header (n k) : Serves s .keyRingHeaderWrite (.keyHeader n k)
  | text : Serves s .linkTextRead .linkText
  | request (c) : (c, s.request.kind) ∈ requestKinds → Serves s c .requestRead
  | unknown : (s.request.kind = 0 ∨ 21 < s.request.kind) → Serves s .unknownRequest .requestRead
  | outcome : Serves s .outcomeWrite .outcomeWrite
  | index : Serves s .requestConsumerWrite .consumerWord
  | piece : Serves s .reloadPieceRead .reloadPiece
  | notice : Serves s .noticeRecordWrite .noticeRecord
  | word : Serves s .noticeProducerWrite .producerWord
  | image (i) : Serves s .imageWrite (.image i)
  | row : Serves s .rowTake .rowRead
  | count : Serves s .recountPieceRead .recountPiece
  | widths : Serves s .widthPieceRead .widthPiece

/-- The commands that are served by the memory side. -/
def memoryCommands : List Instr :=
  [.processorReadData, .drain, .requestProducerIndexWrite, .noticeConsumerIndexWrite, .keyRingConsumerWrite, .keyRingWrite,
    .keyRingHeaderWrite, .linkTextRead, .unknownRequest, .outcomeWrite, .requestConsumerWrite, .reloadPieceRead,
    .noticeRecordWrite, .noticeProducerWrite, .imageWrite, .rowTake, .recountPieceRead, .widthPieceRead]
    ++ requestKinds.map (·.1)

/-! ## The status row (R157, R158) -/

/-- The codes of a row of characters (00_scope.md 4.6). -/
def chars (x : String) : List Byte := x.toList.map (fun c => BitVec.ofNat 8 c.toNat)

/-- R157: a number in decimal, with leading zeros to a width of `w`. -/
def dec (w n : Nat) : List Byte := (List.range w).map (fun i => BitVec.ofNat 8 (0x30 + n / 10 ^ (w - 1 - i) % 10))

/-- R62, R157: the effective end of an edition. -/
def effectiveEndOf (r : Edition) : Nat := if r.state = .grace then r.graceEnd else r.close

/-- R157: the edition may be shown: scheduled and not CLOSED. -/
def Shown (s : State) (e : Nat) : Prop :=
  1 ≤ e ∧ e ≤ 4 ∧ (s.edition e).scheduled = true ∧ (s.edition e).state ≠ .closed

/-- R157: the letter of an edition's state. -/
def stateLetter (x : EditionState) : String := if x = .opened then "O" else if x = .lockout then "L" else "G"

/-- R157: columns 0 to 19. -/
def EditionFieldIs (s : State) (f : List Byte) : Prop :=
  ((∀ e, ¬Shown s e) → f = chars "NO EDITION          ")
  ∧ ∀ e, Shown s e →
    (∀ d, Shown s d → effectiveEndOf (s.edition e) < effectiveEndOf (s.edition d)
      ∨ (effectiveEndOf (s.edition e) = effectiveEndOf (s.edition d) ∧ e ≤ d)) →
    f = chars "E" ++ dec 1 e ++ chars " " ++ chars (stateLetter (s.edition e).state) ++ chars " "
      ++ dec 3 (min 999 ((effectiveEndOf (s.edition e) - s.clock.time + 59) / 60)) ++ chars "            "

/-- R157: columns 20 to 39, for home basket `b`. -/
def BasketFieldIs (s : State) (b : Nat) (f : List Byte) : Prop :=
  f = chars "B" ++ dec 2 b ++ chars " " ++ dec 3 (s.basket b).length ++ chars " U"
    ++ dec 2 (min 99 ((s.basket b).countP (fun n => (s.story n).urgent))) ++ chars "         "

/-- R158: the fit word. -/
def fitWord : Fit → String
  | .unset => "UNSET"
  | .counting => "COUNT"
  | .under => "UNDER"
  | .fits => "FITS "
  | .over => "OVER "

/-- R41: the line difference, (D - A) / l toward zero, from -99 to +99. -/
def differenceOf (r : Story) : Int := max (-99) (min 99 (Int.tdiv ((r.d : Int) - (r.hole : Int)) (r.leading : Int)))

/-- R158: columns 40 to 67, for the held story `n`. -/
def StoryFieldIs (s : State) (n : Nat) (f : List Byte) : Prop :=
  let r := s.story n
  let x := differenceOf r
  f = chars "S" ++ dec 3 n ++ chars " " ++ chars (fitWord r.fit) ++ chars " "
    ++ (if r.fit = .unset ∨ r.fit = .counting then chars "    "
      else chars (if 0 ≤ x then "+" else "-") ++ dec 2 x.natAbs ++ chars "L")
    ++ chars "             "

/-- R158: a flag's letter, or a space. -/
def flagChar (b : Bool) (x : String) : List Byte := if b then chars x else chars " "

/-- R158: columns 68 to 79, for terminal `k`, which holds story `n` (0 for none). -/
def FlagsFieldIs (s : State) (k n : Nat) (f : List Byte) : Prop :=
  let e := (s.story n).edition
  let near := n ≠ 0 ∧ e ≠ 0 ∧ (s.edition e).scheduled = true
    ∧ ((s.edition e).state = .lockout ∨ (s.edition e).state = .grace)
  f = flagChar (s.notices.refused.at1 false k) "R" ++ chars " " ++ flagChar (s.term k).overrunMark "K" ++ chars " "
    ++ flagChar (s.pages.entries.any (fun g => g.state == .faulted)) "T" ++ chars " " ++ flagChar (decide near) "W"
    ++ chars "     "

/-! ## Records in memory (R172, R175, R176, R178) -/

/-- A field of a record: its offset, its width in bytes, its value. -/
abbrev FieldAt := Nat × Nat × Nat

/-- R172: the record at `a` holds the fields, each least significant byte first. -/
def Holds (m : Memory) (a : Nat) (fields : List FieldAt) : Prop :=
  ∀ o w v, (o, w, v) ∈ fields → ∀ j, j < w → m.read (a + o + j) = BitVec.ofNat 8 (v / 256 ^ j)

/-- A bit of a field at its weight. -/
def bitAt (b : Bool) (w : Nat) : Nat := if b then w else 0

/-- R172: a 1-byte field whose none is 0xFF. -/
def orNone (x : Option Nat) : Nat := x.getD 0xFF

/-- R175: the part state word. -/
def partStateFields (s : State) : List FieldAt :=
  let source := fun f => bitAt (s.copyfit.loaded.at0 false f) (2 ^ f)
  [(0, 1, [PartState.notConfigured, .running, .passThrough].idxOf s.part),
    (1, 1, [PartCause.power, .bus, .reload, .badBase].idxOf s.cause),
    (2, 1, source 0 + source 1 + source 2 + source 3 + bitAt s.notices.refusedSystem 16
      + bitAt s.notices.refusedUnknown 32 + 64 * [LinkState.idle, .sending, .halted].idxOf s.link.state),
    (3, 1, s.link.timer)]

/-- R176: a notice record. -/
def noticeFields (q : Notice) : List FieldAt :=
  [(0, 1, 1 + [NoticeKind.guard, .image, .busform, .keyloss, .line, .drop, .grace, .closed, .late, .fault, .sent,
      .pass].idxOf q.kind),
    (1, 1, orNone q.terminal), (2, 1, orNone q.page),
    (3, 1, [Cause.noCause, .inSend, .set, .unknown, .released, .restricted, .notHolder, .control, .keyRing, .read, .write,
      .dropped, .partWord, .full, .guarded, .parity, .framing, .unsolicited, .answer, .overrun, .brk, .up, .down, .fault,
      .timeout, .badBase].idxOf q.cause),
    (4, 2, q.story), (6, 1, orNone q.unit), (7, 1, q.graceCount), (8, 4, q.time), (12, 4, q.graceEnd)]

/-- R178: the story image; the basket link is the story after it in its basket, or 0 (R4). -/
def storyFields (s : State) (n : Nat) : List FieldAt :=
  let r := s.story n
  let l := s.basket r.basket
  [(0, 1, [StoryState.free, .filed, .held, .queued, .sending, .set, .killed].idxOf r.state), (1, 1, r.holder),
    (2, 1, r.basket),
    (3, 1, bitAt r.urgent 1 + 2 * [Recount.idle, .waiting, .counting].idxOf r.recount
      + 16 * [Fit.unset, .counting, .under, .fits, .over].idxOf r.fit),
    (4, 1, r.edition), (5, 1, r.font), (6, 1, orNone (r.placement.map (·.1))), (7, 1, orNone (r.placement.map (·.2))),
    (8, 4, r.base), (12, 1, r.capacity), (13, 1, r.size), (14, 2, r.measure), (16, 2, r.leading), (18, 2, r.hole),
    (20, 4, r.u), (24, 2, r.p), (26, 2, r.l), (28, 2, r.d), (30, 2, l.getD (l.idxOf n + 1) 0)]

/-- R178: the page image, with story 0 and hole 0 beyond the placement count. -/
def pageFields (s : State) (p : Nat) : List FieldAt :=
  let g := s.page p
  [(0, 1, [PageState.empty, .makeup, .queued, .sending, .sent, .faulted, .late].idxOf g.state), (1, 1, g.edition),
    (2, 1, g.sectionCode), (3, 1, g.placements.length), (4, 2, g.printed), (6, 1, g.resumePos), (7, 1, 0),
    (8, 2, g.resumeOff), (10, 6, 0)]
    ++ (List.range 12).flatMap (fun i =>
      [(16 + 4 * i, 2, (g.placements.map (·.story)).getD i 0), (18 + 4 * i, 2, (g.placements.map (·.hole)).getD i 0)])

/-- R178: the edition image. -/
def editionFields (s : State) (e : Nat) : List FieldAt :=
  let r := s.edition e
  [(0, 1, bitAt r.scheduled 1), (1, 1, [EditionState.opened, .lockout, .grace, .closed].idxOf r.state), (2, 1, r.graceCount),
    (3, 1, bitAt r.armed 1 + bitAt r.latched 2), (4, 4, r.lockout), (8, 4, r.close), (12, 4, r.graceEnd)]

/-- R6, R178: the basket header image. -/
def basketFields (s : State) (b : Nat) : List FieldAt :=
  [(0, 2, (s.basket b).length), (2, 2, (s.basket b).countP (fun n => (s.story n).urgent)), (4, 2, (s.basket b).headD 0),
    (6, 2, 0)]

/-- R178: the line status image. -/
def lineFields (s : State) (n : Nat) : List FieldAt :=
  let l := s.line n
  let drop := fun d => match l.drops.at0 none d with
    | none => 0
    | some r => if r.state = .up then 1 else 2
  [(0, 1, bitAt l.cfg.enabled 1 + bitAt (l.cfg.mode == .shared) 2 + 4 * [Parity.off, .even, .odd].idxOf l.cfg.parity
      + bitAt l.cfg.twoStop 16),
    (1, 1, if s.part = .running ∧ l.cfg.enabled = true ∧ l.cfg.divisor ≠ 0 then
      [TxState.idle, .row, .poll, .wait, .answer, .vacant].idxOf l.tx else 0),
    (2, 1, l.queue.length), (3, 1, bitAt l.error 1 + bitAt l.overrun 2 + bitAt l.brk 4),
    (4, 1, drop 0 + 4 * drop 1 + 16 * drop 2 + 64 * drop 3), (5, 2, l.cfg.divisor), (7, 1, 0)]

/-- R178: the terminal status image. -/
def terminalFields (s : State) (k : Nat) : List FieldAt :=
  [(0, 1, (s.term k).dirty.entries.count true),
    (1, 1, bitAt (s.notices.refused.at1 false k) 1 + bitAt (s.term k).overrunMark 2), (2, 2, 0)]

/-- R160, R175, R178: the offset, the size and the fields of each image and word of the mark list. -/
def imageLayout (s : State) : MarkItem → Nat × Nat × List FieldAt
  | .partState => (0x110, 4, partStateFields s)
  | .time => (0x11C, 4, [(0, 4, s.clock.time)])
  | .line n => (0xE00 + 8 * n, 8, lineFields s n)
  | .edition e => (0xE80 + 16 * (e - 1), 16, editionFields s e)
  | .basket b => (0xF00 + 8 * b, 8, basketFields s b)
  | .story n => (0x1000 + 32 * n, 32, storyFields s n)
  | .page p => (0x5000 + 64 * p, 64, pageFields s p)
  | .sendQueue => (0x6800, 96, (List.range 96).map (fun i => (i, 1, orNone s.sendQueue[i]?)))
  | .terminal k => (0x6C00 + 4 * (k - 1), 4, terminalFields s k)
  | .widths f => (0x7000 + 224 * f, 224,
      (List.range 224).map (fun i => (i, 1, (s.copyfit.tables.at0 builtinTable f).at0 0 i)))

/-! ## The configuration that a RELOAD reads (R167, R173) -/

/-- R172: a field of `w` bytes at offset `o` of the 1,280 bytes read, the control block first and then the terminal map. -/
def configField (bytes : List Byte) (o w : Nat) : Nat := leNat ((bytes.drop o).take w)

/-- R173: a field of line `n`'s configuration. -/
def lineField (bytes : List Byte) (n o w : Nat) : Nat := configField bytes (0x40 + 8 * n + o) w

/-- R173: a field of terminal `k`'s record. -/
def termField (bytes : List Byte) (k o w : Nat) : Nat := configField bytes (256 + 16 * (k - 1) + o) w

/-- R59, R114, R131, R152, R167, R173: `c` is the configuration that the bytes give, clamped. -/
def ConfigRead (bytes : List Byte) (c : LoadedConfig) : Prop :=
  c.linkDivisor = min 1023 (configField bytes 0x04 2) ∧ c.linkTimeout = configField bytes 0x06 1
    ∧ c.grace = max 1 (min 30 (configField bytes 0x07 1)) ∧ c.slice1 = max 1 (min 4 (configField bytes 0x08 1))
    ∧ c.slice2 = max 1 (min 4 (configField bytes 0x09 1)) ∧ c.start = max 1 (min 64 (configField bytes 0x0A 1))
    ∧ (∀ n, n < 16 → ∃ r, c.lines.at0 LineCfg.off n = r
        ∧ (r.enabled = true ↔ lineField bytes n 0 1 ≠ 0)
        ∧ (lineField bytes n 1 1 = 0 → r.mode = .direct) ∧ (lineField bytes n 1 1 = 1 → r.mode = .shared)
        ∧ (lineField bytes n 2 1 = 0 → r.parity = .off) ∧ (lineField bytes n 2 1 = 1 → r.parity = .even)
        ∧ (lineField bytes n 2 1 = 2 → r.parity = .odd)
        ∧ (r.twoStop = true ↔ 2 ≤ lineField bytes n 3 1) ∧ r.divisor = min 1023 (lineField bytes n 4 2))
    ∧ ∀ k, 1 ≤ k → k ≤ 64 → ∃ r, c.terms.at1 TermCfg.off k = r
        ∧ (termField bytes k 0 1 = 0 → r = TermCfg.off)
        ∧ (termField bytes k 0 1 ≠ 0 → r.enabled = true ∧ r.line = termField bytes k 1 1 ∧ r.drop = termField bytes k 2 1
          ∧ (termField bytes k 3 1 = 1 → r.rank = .reporter) ∧ (termField bytes k 3 1 = 2 → r.rank = .editor)
          ∧ (termField bytes k 3 1 = 3 → r.rank = .slot) ∧ r.basket = termField bytes k 4 1
          ∧ r.screen = termField bytes k 8 4 ∧ r.ring = termField bytes k 12 4)

/-- R167: the number of values clamped. -/
def clampedValues (bytes : List Byte) : Nat :=
  let out := fun (lo hi v : Nat) => if v < lo ∨ hi < v then 1 else 0
  out 0 1023 (configField bytes 0x04 2) + out 1 30 (configField bytes 0x07 1) + out 1 4 (configField bytes 0x08 1)
    + out 1 4 (configField bytes 0x09 1) + out 1 64 (configField bytes 0x0A 1)
    + ((List.range 16).map (fun n => out 1 2 (lineField bytes n 3 1) + out 0 1023 (lineField bytes n 4 2))).sum

/-- R167, R173: the structural errors, in the order of R167's list, with the control area at `base` after the RELOAD; `move`
says that the relocation word names a new base. -/
def HasStructuralError (s : State) (bytes : List Byte) (base : Nat) (move : Prop) : Prop :=
  let on := fun k => 1 ≤ k ∧ k ≤ 64 ∧ termField bytes k 0 1 ≠ 0
  let line := fun k => termField bytes k 1 1
  let drop := fun k => termField bytes k 2 1
  let screen := fun k => termField bytes k 8 4
  let ring := fun k => termField bytes k 12 4
  (∃ k j, k ≠ j ∧ on k ∧ on j ∧ line k = line j ∧ drop k = drop j)
  ∨ (∃ k, on k ∧ line k ≤ 15 ∧ lineField bytes (line k) 1 1 = 0 ∧ drop k ≠ 0)
  ∨ (∃ k, on k ∧ (15 < line k ∨ 3 < drop k))
  ∨ (∃ k, on k ∧ (termField bytes k 4 1 = 0 ∨ 23 < termField bytes k 4 1))
  ∨ ((∃ k, on k ∧ (termField bytes k 3 1 = 0 ∨ 3 < termField bytes k 3 1))
    ∨ ∃ n, n < 16 ∧ (1 < lineField bytes n 1 1 ∨ 2 < lineField bytes n 2 1))
  ∨ (∃ k, on k ∧ (screen k % 16 ≠ 0 ∨ addressSpace < screen k + 1840))
  ∨ (∃ k, on k ∧ (ring k % 4 ≠ 0 ∨ addressSpace < ring k + 68))
  ∨ (∃ k, on k ∧ ((screen k < base + 65536 ∧ base < screen k + 1840) ∨ (ring k < base + 65536 ∧ base < ring k + 68)))
  ∨ (move ∧ ∃ n x, base ≤ x ∧ x < base + 65536 ∧ InText s n x)

/-! ## Invariants -/

/-- Main memory is in its canonical form. -/
def MemoryRight (s : State) : Prop := Memory.wf s.mem = true

/-- R164: ATTN is asserted in PASS-THROUGH, and otherwise while the published producer differs from the consumer copy. -/
def AttnRight (s : State) : Prop := s.pins.attn = attnLevel s.part s.notices

/-- R65: a page's list and the placements of the stories name each other, and a FREE or KILLED story is on no page. -/
def PlacementsRight (s : State) : Prop :=
  (∀ p i : Nat, p ≤ 95 → ∀ q, (s.page p).placements[i]? = some q →
      validStory q.story = true ∧ (s.story q.story).placement = some (p, i))
    ∧ (∀ n p i : Nat, (s.story n).placement = some (p, i) →
      p ≤ 95 ∧ ((s.page p).placements[i]?).map (·.story) = some n)
    ∧ (∀ n : Nat, ((s.story n).state = .free ∨ (s.story n).state = .killed) → (s.story n).placement = none)

/-- The indices, counters and clocks that the manual bounds stay within their bounds (R47, R90, R126, R161, R163). -/
def RangesRight (s : State) : Prop :=
  s.path.queue.length ≤ 8 ∧ s.path.counter < 65536 ∧ s.engine.consumer < 32 ∧ s.engine.latest < 32
    ∧ s.notices.reserved < 64 ∧ s.notices.published < 64 ∧ s.notices.consumer < 64
    ∧ s.clock.time < secondsPerDay ∧ s.clock.second < refclkPerSecond ∧ s.link.timer ≤ 255

/-- R166, R169: in PASS-THROUGH no RELOAD and no width-table load is in progress. -/
def PassRight (s : State) : Prop :=
  s.part = .passThrough → s.reloadInProgress = false ∧ ∀ f a ws c, s.engine.progress ≠ some (.loadingWidths f a ws c)

/-- R91, R96, R101: the commands that may change main memory: the drains, the part's own writes, and the resets, which finish
the operation in progress. -/
def storesToMemory : Instr → Bool
  | .drain => true
  | .requestProducerIndexWrite => true
  | .noticeConsumerIndexWrite => true
  | .keyRingConsumerWrite => true
  | .outcomeWrite => true
  | .requestConsumerWrite => true
  | .noticeRecordWrite => true
  | .noticeProducerWrite => true
  | .imageWrite => true
  | .keyRingWrite => true
  | .keyRingHeaderWrite => true
  | .pwrrst => true
  | .busrst => true
  | .advance => false
  | .processorRead _ _ => false
  | .processorReadData => false
  | .misalignedRead _ _ => false
  | .misalignedWrite _ _ => false
  | .writeEntry _ _ => false
  | .heldWriteEntry => false
  | .contextWordWrite _ => false
  | .unknownRequest => false
  | .register => false
  | .take => false
  | .returnStory => false
  | .file => false
  | .kill => false
  | .purge => false
  | .loadwidths => false
  | .widthPieceRead => false
  | .style => false
  | .allot => false
  | .recountStart => false
  | .recountPieceRead => false
  | .settime => false
  | .schedule => false
  | .hold => false
  | .setpage => false
  | .place => false
  | .unplace => false
  | .release => false
  | .reopen => false
  | .clear => false
  | .resume => false
  | .lineclear => false
  | .reload => false
  | .reloadPieceRead => false
  | .sendStart => false
  | .linkTextRead => false
  | .linkShiftCompletion => false
  | .lreadyAssert => false
  | .lreadyDeassert => false
  | .lfaultAssert => false
  | .lfaultDeassert => false
  | .linkTimeout => false
  | .lineShiftCompletion _ => false
  | .vacantPollEnd _ => false
  | .answerWindowExpiry _ => false
  | .answerGapExpiry _ => false
  | .startBitDetect _ => false
  | .receiveFrame _ _ => false
  | .breakDetect _ => false
  | .resyncEnd _ => false
  | .scanVisit => false
  | .rowTake => false
  | .spacingFrameReturnToMarking _ => false

end Sys2Proof.Machine
end

