-- ==== Sys2Proof/Certificates/Slice0/Obligations.lean ====
section
/-! DEFINITION. The statements about the machine. -/

open Sys2Proof Sys2Proof.Machine

/-! ## Steps and resets -/

/-- R47, log entry 3: a step takes the command at the front of the queue and runs it on the state with the queue's rest. On an
empty queue it is one period of REFCLK: the second counter counts it, and the 4,915,200th period completes the second and
makes the advance. That a step without a command is one period is the model's choice (log entry 3). -/
def Obligations.StepRunsTheFrontCommand : Prop :=
  (∀ (c : Instr) (rest : List Instr) (s : State), s.pending = c :: rest → step s = exec c { s with pending := rest })
  ∧ ∀ s : State, s.pending = [] →
      (s.clock.second + 1 < 4915200 → step s = .next { s with clock := { s.clock with second := s.clock.second + 1 } })
      ∧ (4915200 ≤ s.clock.second + 1 → step s = exec .advance s)

/-- R101, R171: the control area after each reset, row by row of R171's table. Memory is not cleared: it is as it was, or as
the memory-side operation that the reset finds in progress leaves it. Which operation that is, the one the arbiter would
grant, is the model's choice (log entry 6). -/
def Obligations.ResetsOfTheControlArea : Prop :=
  ∀ s : State, ∃ p b : State, exec .pwrrst s = .next p ∧ exec .busrst s = .next b
    ∧ p.base = s.pins.basesel.toNat * 1048576 ∧ b.base = s.base
    ∧ p.part = .notConfigured ∧ p.cause = .power ∧ b.part = .notConfigured ∧ b.cause = .bus
    ∧ p.clock.grace = 10 ∧ b.clock.grace = s.clock.grace
    ∧ ∀ t, (t = p ∨ t = b) →
      t.engine.consumer = 0 ∧ t.engine.latest = 0 ∧ t.engine.progress = none
      ∧ t.notices.reserved = 0 ∧ t.notices.published = 0 ∧ t.notices.consumer = 0 ∧ t.notices.overflow = false
      ∧ t.notices.unwritten = [] ∧ t.pins.attn = false ∧ t.marks = [.partState]
      ∧ (∀ k, t.enabled k = false) ∧ (∀ n, (t.line n).cfg.divisor = 0) ∧ t.link.divisor = 0
      ∧ t.scanner.slice1 = 1 ∧ t.scanner.slice2 = 1 ∧ t.scanner.start = 1
      ∧ MemoryKept s t

/-- R2, R46, R50, R63, R84, R101, R113, R130, R143, R147, R159: the other blocks after each reset. PWRRST brings the clock
and the width tables to their first values, BUSRST keeps both. The model's choices are that the levels of the input pins stay
(log entry 2), and that a line's row position and answer counts are 0 and its receiver looks for a start bit (log entry 25). -/
def Obligations.ResetsOfTheOtherBlocks : Prop :=
  ∀ s : State, ∃ p b : State, exec .pwrrst s = .next p ∧ exec .busrst s = .next b
    ∧ p.clock.time = 0 ∧ p.clock.second = 0 ∧ (∀ e, p.edition e = ⟨false, 0, 0, .opened, 0, 0, false, false⟩)
    ∧ b.clock = s.clock
    ∧ p.copyfit.tables = Table.fill 4 builtinTable ∧ p.copyfit.loaded = Table.fill 4 false
    ∧ b.copyfit.tables = s.copyfit.tables ∧ b.copyfit.loaded = s.copyfit.loaded
    ∧ ∀ t, (t = p ∨ t = b) →
      (∀ n, t.story n = Story.freed) ∧ (∀ k, t.basket k = []) ∧ t.copyfit.list = []
      ∧ (∀ k, t.page k = Page.blank) ∧ t.sendQueue = []
      ∧ t.path.queue = [] ∧ t.path.counter = 0 ∧ t.path.context = 0 ∧ t.path.held = none ∧ t.path.read = none
      ∧ t.path.turn = .engine ∧ t.path.rot1 = 0 ∧ t.path.rot3 = 0 ∧ t.path.rot5 = 0
      ∧ (∀ c, t.refusedFlag c = false)
      ∧ t.link = ⟨0, 0, .idle, none, none, 0, false, none⟩
      ∧ (∀ n, t.line n = Line.off) ∧ (∀ k, t.term k = Terminal.off)
      ∧ t.scanner.pos = 1 ∧ t.scanner.visit = none ∧ t.scanner.take = none
      ∧ t.pins.basesel = s.pins.basesel ∧ t.pins.lready = s.pins.lready ∧ t.pins.lfault = s.pins.lfault

/-! ## The edition clock -/

/-- R47, R63, R126: an ADVANCE moves the time on by one second, wrapping at the end of the production day, starts a new second
and marks the time word; the link timer counts while a frame waits for LREADY. In PASS-THROUGH it does nothing else; in
the other part states the evaluations may also change editions, pages, stories, baskets, the send queue and notices. That the
timer only counts here, and a timer at T faults the page in a step of its own, is the model's choice (log entry 11). -/
def Obligations.AdvanceMovesTheTime : Prop :=
  ∀ s : State, ∃ t, exec .advance s = .next t
    ∧ t.clock.time = (s.clock.time + 1) % secondsPerDay ∧ t.clock.second = 0 ∧ t.clock.grace = s.clock.grace
    ∧ MarkItem.time ∈ t.marks
    ∧ t.link = { s.link with timer :=
        if s.link.state = .sending ∧ s.link.hold.isSome = true ∧ s.pins.lready = false then min 255 (s.link.timer + 1)
        else s.link.timer }
    ∧ OnlyMarks [.clock, .link, .stories, .baskets, .pages, .sendQueue, .notices, .free] s t
    ∧ (s.part = .passThrough → Frame [.clock, .link, .marks] s t ∧ ∀ e, t.edition e = s.edition e)

/-- R48, R53 to R56, R60, R61, R73, R74: at an ADVANCE outside PASS-THROUGH every edition takes the steps that the new time
allows, each record by itself; at the day rollover each record is rolled over first. The evaluations come one after another,
in an order that the manual leaves open (log entry 4): each hands over its GRACE notice, or makes its close processing on
pages, send queue, stories and baskets and hands over its LATE and CLOSED notices, on the records that the one before left. -/
def Obligations.AdvanceEvaluatesEveryEdition : Prop :=
  ∀ s : State, s.part ≠ .passThrough →
    let time := (s.clock.time + 1) % secondsPerDay
    let begun : State := { s with clock := { s.clock with
      time := time, editions := if time = 0 then s.clock.editions.map Edition.rolled else s.clock.editions } }
    ∃ t, exec .advance s = .next t
      ∧ (∀ e, validEdition e = true →
          t.edition e = ((if time = 0 then (s.edition e).rolled else s.edition e) : Edition).evaluated time s.clock.grace)
      ∧ (PlacementsRight s → ∃ order : List Nat, order.Perm [1, 2, 3, 4] ∧ EvaluatedInTurn order begun t)

/-- R49, R53 to R56, R60, R61, R73, R74: SETTIME sets the time for the system and answers CLAMPED where it had to be clamped; a
new second starts and every edition is evaluated, one after another in an order that the manual leaves open (log entry 4), with
its notices and its close processing; no rollover is made. A terminal is answered RANK and nothing is set. -/
def Obligations.SettimeSetsTheTime : Prop :=
  ∀ s : State, Asked 10 s →
    ∃ t, exec .settime s = .next t
      ∧ if s.request.requester ≠ 0 then Answered .rank 0 s t ∧ Only [.path, .engine] s t
        else
          Answered (if 86399 < s.request.u32 8 then .clamped else .done) 0 s t
          ∧ t.clock.time = min 86399 (s.request.u32 8) ∧ t.clock.second = 0 ∧ t.clock.grace = s.clock.grace
          ∧ MarkItem.time ∈ t.marks
          ∧ (∀ e, validEdition e = true →
              t.edition e = (s.edition e).evaluated (min 86399 (s.request.u32 8)) s.clock.grace)
          ∧ (PlacementsRight s → ∃ order : List Nat, order.Perm [1, 2, 3, 4] ∧
              EvaluatedInTurn order { s with clock := { s.clock with time := min 86399 (s.request.u32 8) } } t)
          ∧ OnlyMarks [.path, .engine, .clock, .stories, .baskets, .pages, .sendQueue, .notices, .free] s t

/-- R51, R52, R54, R55, R56, R60, R61, R73, R74: SCHEDULE: its checks in order, the clamped times, the reopening, the
evaluation of that edition alone, and the edition's state in the note. An evaluation that begins a grace window hands over a
GRACE notice. One that closes the edition makes close processing: each page of the edition in MAKEUP becomes QUEUED and joins
the send queue if every placed story is FILED and FITS, and its stories leave their baskets and become QUEUED, or becomes LATE
with a LATE notice; a CLOSED notice follows. Without a close no page, story or basket changes. -/
def Obligations.ScheduleSetsAnEdition : Prop :=
  ∀ s : State, PlacementsRight s → Asked 11 s →
    let e := s.request.u8 8
    let close := min 86399 (s.request.u32 16)
    let lockout := min close (min 86399 (s.request.u32 12))
    let r : Edition :=
      if s.request.u8 9 ≠ 0 then ⟨true, lockout, close, .opened, 0, 0, false, false⟩
      else { s.edition e with scheduled := true, lockout := lockout, close := close }
    ∃ t, exec .schedule s = .next t
      ∧ if s.isReporter s.request.requester = true ∨ s.isEditor s.request.requester = true then
          Answered .rank 0 s t ∧ Only [.path, .engine] s t
        else if validEdition e = false then Answered .badArg 0 s t ∧ Only [.path, .engine] s t
        else
          t.edition e = r.evaluated s.clock.time s.clock.grace
          ∧ EvaluationDoes e r (t.edition e) s t
          ∧ (∀ d, d ≠ e → t.edition d = s.edition d)
          ∧ t.clock.time = s.clock.time ∧ t.clock.second = s.clock.second ∧ t.clock.grace = s.clock.grace
          ∧ MarkItem.edition e ∈ t.marks
          ∧ Answered (if lockout = s.request.u32 12 ∧ close = s.request.u32 16 then .done else .clamped)
              (t.edition e).state.code s t
          ∧ Only [.path, .engine, .clock, .stories, .baskets, .pages, .sendQueue, .notices] s t

/-- R58: HOLD: its checks in order, and the hold armed in OPEN and LOCKOUT or latched in GRACE. The note of a refused HOLD
is 0 (log entry 13, the model's reading of the worked tables). -/
def Obligations.HoldArmsOrLatches : Prop :=
  ∀ s : State, Asked 12 s →
    let e := s.request.u8 8
    let r := s.edition e
    ∃ t, exec .hold s = .next t ∧ Only [.path, .engine, .clock] s t
      ∧ (∀ d, d ≠ e → t.edition d = s.edition d)
      ∧ t.clock.time = s.clock.time ∧ t.clock.second = s.clock.second ∧ t.clock.grace = s.clock.grace
      ∧ (if validEdition e = false then Answered .badArg 0 s t ∧ t.edition e = r
        else if s.isReporter s.request.requester = true ∨ s.isEditor s.request.requester = true then
          Answered .rank 0 s t ∧ t.edition e = r
        else if r.scheduled = false then Answered .badState 0 s t ∧ t.edition e = r
        else if r.state = .closed then Answered .closed 0 s t ∧ t.edition e = r
        else if r.state ≠ .grace then
          if r.armed = true then Answered .busy 0 s t ∧ t.edition e = r
          else Answered .done r.graceCount s t ∧ t.edition e = { r with armed := true } ∧ MarkItem.edition e ∈ t.marks
        else if r.latched = true then Answered .busy 0 s t ∧ t.edition e = r
        else if r.graceCount = 3 then Answered .limit 0 s t ∧ t.edition e = r
        else Answered .done r.graceCount s t ∧ t.edition e = { r with latched := true } ∧ MarkItem.edition e ∈ t.marks)

/-! ## The memory path -/

/-- R85, R86, R95, R97, R100: a read presented on a free bus. An aligned or misaligned read whose bytes are all queued returns
at once, for each byte, the youngest queued write; any other waits for a memory read. A misaligned one gives one BUSFORM
notice with cause READ, except in PASS-THROUGH. The waiting read is granted ahead of everything else and returns, for each
byte, the youngest queued write or else the memory content; nothing else changes. A byte past the last address has no memory
content: what a misaligned read returns for it, unless it is queued, is a free value (log entry 22). An operation is granted
and served in one step (log entry 6). -/
def Obligations.ReadsReturnTheYoungestBytes : Prop :=
  (∀ (a : BusAddr) (n : XferSize) (s : State), s.path.held = none → s.path.read = none →
    let aligned := a.toNat % n.bytes = 0
    let noted : NoticeWriter :=
      if aligned ∨ s.part = .passThrough then s.notices else s.busformNoted a.toNat n.bytes .read
    ∀ c, ((c = Instr.processorRead a n ∧ aligned) ∨ (c = Instr.misalignedRead a n ∧ ¬aligned)) →
      ∃ t, exec c s = .next t ∧ Only [.path, .notices] s t ∧ t.notices = noted
        ∧ ((∀ i, i < n.bytes → ∃ b, queuedByte s.path.queue (a.toNat + i) = some b) →
            t.path.read = none ∧ ∃ bs, t.path = { s.path with readData := some bs } ∧ bs.length = n.bytes
              ∧ ∀ i, i < n.bytes → bs[i]? = queuedByte s.path.queue (a.toNat + i))
        ∧ ((∃ i, i < n.bytes ∧ queuedByte s.path.queue (a.toNat + i) = none) →
            t.path = { s.path with read := some ⟨a.toNat, n.bytes⟩ }))
  ∧ ∀ (s : State) (r : ReadWait), s.path.read = some r →
    ∃ t bs, exec .processorReadData s = .next t ∧ Frame [.path, .free] s t
      ∧ (r.addr + r.size ≤ addressSpace → t.free = s.free)
      ∧ t.path = { s.path with read := none, readData := some bs } ∧ bs.length = r.size
      ∧ ∀ i, i < r.size →
        (∀ b, queuedByte s.path.queue (r.addr + i) = some b → bs[i]? = some b)
        ∧ (queuedByte s.path.queue (r.addr + i) = none → r.addr + i < addressSpace →
            bs[i]? = some (s.mem.read (r.addr + i)))

/-- R85, R88, R89, R90, R94, R100, R102, R106: an aligned write that is presented while the queue has room and no byte of it is
refused joins the queue at the back. Each byte has the memberships of its address, a live word's only where the write covers
the whole word, and plain where it has no other; a write that covers part of a live word gives a PART_WORD notice. A whole
write of the context word is latched, and any write but one wholly of the context word clears the refused flag of its context.
In PASS-THROUGH every write is accepted, every byte is plain, the context is latched, and there is no notice and no flag
changes. WRITE_ENTRY and CONTEXT_WORD_WRITE present one; HELD_WRITE_ENTRY takes the write that is held on the bus, and the bus
is free after it. A write presented while the queue holds 8 entries is held on the bus and changes nothing else. The byte for
the lowest address is the least significant of the transfer (log entry 5). -/
def Obligations.WritesEnterTheQueue : Prop :=
  (∀ (c : Instr) (a : Nat) (bs : List Byte) (s : State), Presents c a bs s → a % bs.length = 0 →
      let whole := a = s.base + 0x100 ∧ bs.length = 4
      let contextOnly := s.base + 0x100 ≤ a ∧ a + bs.length ≤ s.base + 0x104
      (s.part ≠ .passThrough → (∀ q, ¬IsRefused s a bs.length q) →
        ∃ t members, exec c s = .next t ∧ Queued a bs members s t ∧ MembersOf s a bs.length members
          ∧ t.path.context = (if whole then leNat bs else s.path.context) ∧ t.path.held = none
          ∧ (contextOnly → ∀ k, t.refusedFlag k = s.refusedFlag k)
          ∧ (¬contextOnly →
              (∀ k, k ≠ contextOf s → t.refusedFlag k = s.refusedFlag k) ∧ t.refusedFlag (contextOf s) = false)
          ∧ (PartWord s a bs.length → FlagsOnly (s.busformNoted a bs.length .partWord) t.notices)
          ∧ (¬PartWord s a bs.length → FlagsOnly s.notices t.notices)
          ∧ Only [.path, .notices] s t)
      ∧ (s.part = .passThrough →
        ∃ t, exec c s = .next t ∧ Queued a bs (List.replicate bs.length [.plain]) s t
          ∧ t.path.context = (if whole then leNat bs else s.path.context) ∧ t.path.held = none ∧ Frame [.path] s t))
  ∧ ∀ (a : BusAddr) (d : BusData) (s : State), s.path.held = none → s.path.read = none → 8 ≤ s.path.queue.length →
      exec (.writeEntry a d) s = .next { s with path := { s.path with held := some ⟨a.toNat, busBytes d⟩ } }
      ∧ exec (.misalignedWrite a d) s = .next { s with path := { s.path with held := some ⟨a.toNat, busBytes d⟩ } }

/-- R89, R95, R102, R103, R105, R106, R107: an aligned write with a refused byte, presented or entering from the bus, is
discarded whole. A part-written byte is refused under every context, with cause CONTROL or KEY_RING; a text byte by the table
of R103, from the story's state, holder, edition and the context's kind and rank. The refused flag of the context is set, and
if it was clear one IMAGE or GUARD notice is handed over, with the fields of R107. No write touching the text block of a
SENDING or SET story enters, whatever its context: an aligned one is refused, a misaligned one is dropped with a BUSFORM notice
and touches no flag. -/
def Obligations.RefusedWritesAreDiscarded : Prop :=
  (∀ (c : Instr) (a : Nat) (bs : List Byte) (s : State) (q : Notice), Presents c a bs s → a % bs.length = 0 →
      s.part ≠ .passThrough → IsRefused s a bs.length q →
      ∃ t, exec c s = .next t ∧ t.path = { s.path with held := none }
        ∧ t.refusedFlag (contextOf s) = true ∧ (∀ k, k ≠ contextOf s → t.refusedFlag k = s.refusedFlag k)
        ∧ (s.refusedFlag (contextOf s) = true → t = { s with path := { s.path with held := none } })
        ∧ (s.refusedFlag (contextOf s) = false → FlagsOnly (s.notify q).notices t.notices)
        ∧ Only [.path, .notices] s t)
  ∧ ∀ (c : Instr) (a : Nat) (bs : List Byte) (s : State) (n : Nat), Presents c a bs s → s.part = .running →
      ((s.story n).state = .sending ∨ (s.story n).state = .set) → (s.story n).base < a + bs.length →
      a < (s.story n).base + 256 * (s.story n).capacity → 0 < (s.story n).capacity → 0 < bs.length →
      ∃ t, exec c s = .next t ∧ t.path = { s.path with held := none } ∧ Only [.path, .notices] s t
        ∧ (a % bs.length = 0 → t.refusedFlag (contextOf s) = true)
        ∧ (a % bs.length ≠ 0 → t.notices = s.busformNoted a bs.length .dropped)

/-- R85, R89, R95, R100: a misaligned write with room in the queue, presented or entering from the bus, is dropped when it would
touch the control area or the text of a SENDING or SET story, and otherwise joins the queue as plain bytes, with one BUSFORM
notice in either case; in PASS-THROUGH it joins with no notice. The refused flags are not touched. Two things are the model's: a
write that runs past the last address is taken as it stands, and not tested against what lies at address 0 (log entry 22), and
the byte for the lowest address is the least significant of the transfer (log entry 5). -/
def Obligations.MisalignedWrites : Prop :=
  ∀ (c : Instr) (a : Nat) (bs : List Byte) (s : State), Presents c a bs s → a % bs.length ≠ 0 → 0 < bs.length →
    let plain := List.replicate bs.length [Membership.plain]
    let closed := (s.base < a + bs.length ∧ a < s.base + 65536)
      ∨ ∃ n ∈ s.storiesTouched a bs.length, (s.story n).state = .sending ∨ (s.story n).state = .set
    ∃ t, exec c s = .next t ∧ Only [.path, .notices] s t ∧ t.path.held = none
      ∧ (∀ k, t.refusedFlag k = s.refusedFlag k) ∧ t.path.context = s.path.context
      ∧ (s.part = .passThrough → Queued a bs plain s t ∧ t.notices = s.notices)
      ∧ (s.part ≠ .passThrough → closed →
          t.path = { s.path with held := none } ∧ t.notices = s.busformNoted a bs.length .dropped)
      ∧ (s.part ≠ .passThrough → ¬closed → Queued a bs plain s t ∧ t.notices = s.busformNoted a bs.length .write)

/-- R31, R91, R92, R93, R95, R100, R150: the drain of the oldest entry writes its bytes to memory, and only them, takes it out
of the queue, and meets every drain tag that names it. Each byte with a screen membership whose terminal is still enabled marks
the covering row on every enabled terminal whose buffer holds it. A misaligned entry, whose bytes are all plain, puts every
story whose block it touched into recount, and marks no row. In PASS-THROUGH nothing is handed over. An operation is granted
and served in one step (log entry 6); a byte past the last address has no memory to reach (log entry 22). -/
def Obligations.DrainWritesTheOldestEntry : Prop :=
  ∀ (s : State) (e : Entry) (q : List Entry), s.grant = some .drain → s.path.queue = e :: q →
    let met := fun (x : Option Nat) => if x = some e.seq then none else x
    let list := s.copyfit.list.map (fun x => { x with tag := met x.tag })
    let shown := fun (k r : Nat) => ∃ i ms j, i < e.data.length ∧ e.members[i]? = some ms ∧ .screen j ∈ ms
      ∧ s.enabled j = true ∧ s.enabled k = true ∧ (s.term k).cfg.screen ≤ e.addr + i
      ∧ e.addr + i < (s.term k).cfg.screen + 1840 ∧ (e.addr + i - (s.term k).cfg.screen) / 80 = r
    ∃ t, exec .drain s = .next t
      ∧ t.path.queue = q ∧ t.path.counter = s.path.counter ∧ t.path.context = s.path.context
      ∧ (∀ x, t.mem.read x = if x < addressSpace then (e.byteAt x).getD (s.mem.read x) else s.mem.read x)
      ∧ t.link = { s.link with ctx := s.link.ctx.map (fun c => { c with tag := met c.tag }) }
      ∧ (∀ x, x ∈ list → x ∈ t.copyfit.list)
      ∧ (s.part ≠ .passThrough → ∀ k r, 1 ≤ k → k ≤ 64 → r < 23 →
          ((t.term k).dirty.at0 false r = true ↔ (s.term k).dirty.at0 false r = true ∨ shown k r))
      ∧ (s.part ≠ .passThrough → e.addr % e.data.length ≠ 0 → e.members = List.replicate e.data.length [.plain] →
          Recounted (fun n => (s.story n).touches e.addr e.data.length) list s t
          ∧ Only [.path, .mem, .link, .copyfit, .stories] s t)
      ∧ Frame [.path, .mem, .link, .copyfit, .stories, .terms, .engine, .notices, .pins, .marks] s t
      ∧ (s.part = .passThrough → Frame [.path, .mem, .link, .copyfit] s t ∧ t.copyfit.list = list)

/-- R97, R98: the arbiter. A processor read that waits is granted first; then, with 4 or more entries queued or a write held, the
oldest entry's drain; otherwise the turn mark decides between the ordinary drain and the engines, and if only one kind waits it
is granted. Of the engines the highest class with an operation waiting is granted, and within a class the first requester in
rotation. Serving an ordinary drain turns the mark to ENGINE, serving an engine turns it to DRAIN and moves the class's
rotation past its requester; a processor read and a pressure drain leave both. A command whose operation is not granted
changes nothing: an operation is granted and served in one step (log entry 6). That a request command whose record names another
kind, and a live-word command whose entry carries no such word, change nothing is the model's choice (log entry 7). -/
def Obligations.TheArbiterGrantsInTurn : Prop :=
  ∀ s : State,
    let pressed := s.path.queue ≠ [] ∧ (4 ≤ s.path.queue.length ∨ s.path.held ≠ none)
    let noEngine := ∀ o : MemOp, 1 ≤ o.rank → ¬Waits s o
    (s.path.read ≠ none → s.grant = some .processorRead)
    ∧ (s.path.read = none → pressed → s.grant = some .drain)
    ∧ (s.path.read = none → ¬pressed →
        (∀ o, EngineChoice s o → (s.path.turn = .engine ∨ s.path.queue = []) → s.grant = some o)
        ∧ (s.path.queue ≠ [] → (s.path.turn = .drain ∨ noEngine) → s.grant = some .drain)
        ∧ (s.path.queue = [] → noEngine → s.grant = none))
    ∧ (∀ c o, Serves s c o → s.grant = some o → ∃ t, exec c s = .next t
        ∧ (1 ≤ o.rank → t.path.turn = .drain) ∧ (o = .drain → ¬pressed → t.path.turn = .engine)
        ∧ ((o = .processorRead ∨ (o = .drain ∧ pressed)) → t.path.turn = s.path.turn)
        ∧ ∀ k, (k = 1 ∨ k = 3 ∨ k = 5) →
            rotationOf t k = if o.rank = k then (o.requester + 1) % classSize k else rotationOf s k)
    ∧ ∀ c, c ∈ memoryCommands → (∀ o, Serves s c o → s.grant ≠ some o) → exec c s = .next s

/-- R161, R163, R146: the drain of a whole write of a control-area live word or of a key ring's consumer field hands its
value over: the latest producer modulo 32; the consumer copy modulo 64 with the overflow mark cleared and ATTN as R164 says;
the ring's consumer copy modulo 32 with its overrun mark cleared and a header write asked for if the mark was set. -/
def Obligations.LiveWordsActAtTheirDrain : Prop :=
  ∀ (s : State) (e : Entry) (q : List Entry), s.grant = some .drain → s.path.queue = e :: q → s.part ≠ .passThrough →
    e.addr % e.data.length = 0 →
    (e.data.length = 4 → e.members = List.replicate 4 [.requestProducer] →
      ∃ t, exec .requestProducerIndexWrite s = .next t ∧ t.path.queue = q
        ∧ t.engine = { s.engine with latest := leNat e.data % 32 }
        ∧ Only [.path, .mem, .link, .copyfit, .engine] s t)
    ∧ (e.data.length = 4 → e.members = List.replicate 4 [.noticeConsumer] →
      ∃ t, exec .noticeConsumerIndexWrite s = .next t ∧ t.path.queue = q
        ∧ t.notices = { s.notices with
            consumer := leNat e.data % 64, overflow := false, wordFlag := s.notices.wordFlag || s.notices.overflow }
        ∧ t.pins = { s.pins with attn := decide (s.notices.published ≠ leNat e.data % 64) }
        ∧ Only [.path, .mem, .link, .copyfit, .notices, .pins] s t)
    ∧ (∀ k g, e.data.length = 2 → e.members = List.replicate 2 [.keyConsumer k] → s.enabled k = true →
        1 ≤ k → k ≤ 64 → (s.term k).ring = some g →
      ∃ t, exec .keyRingConsumerWrite s = .next t ∧ t.path.queue = q
        ∧ (t.term k).ring = some { g with
            consumer := leNat e.data % 32, overrun := false, headerAsked := g.headerAsked || g.overrun }
        ∧ (∀ j, j ≠ k → (t.term j).ring = (s.term j).ring) ∧ (∀ j, (t.term j).cfg = (s.term j).cfg)
        ∧ (g.overrun = true → MarkItem.terminal k ∈ t.marks)
        ∧ Frame [.path, .mem, .link, .copyfit, .terms, .marks] s t)

/-- R29, R38 to R40, R88, R93: the drain of an entry of 1, 2 or 4 bytes that lies in the text of a story, whatever other
memberships its bytes have. Byte by byte, U changes by the difference of the widths and P by that of the paragraph codes: for an
IDLE story with every byte, and L, D and the fit are recomputed; for a COUNTING story with the bytes below the cursor; a WAITING
story keeps its counts, and so does a FREE or KILLED one. No other story changes. -/
def Obligations.TextDrainsKeepTheCounts : Prop :=
  ∀ (s : State) (e : Entry) (q : List Entry) (n off : Nat), s.grant = some .drain → s.path.queue = e :: q →
    s.part ≠ .passThrough → (e.data.length = 1 ∨ e.data.length = 2 ∨ e.data.length = 4) → e.addr % e.data.length = 0 →
    e.members.length = e.data.length →
    (∀ i ms, e.members[i]? = some ms → ms.filter (fun m => m.isText) = [Membership.text n (off + i)]) → validStory n = true →
    let r := s.story n
    let para := fun (b : Byte) => if b = 0x1E#8 then 1 else 0
    let counted := fun (l : List (Byte × Byte)) => l.foldl (fun (x : Nat × Nat) b =>
      (x.1 + s.width r.font b.1 - s.width r.font b.2, x.2 + para b.1 - para b.2)) (r.u, r.p)
    let bytes := e.data.zip (s.mem.readBytes e.addr e.data.length)
    let u := (counted bytes).1
    let p := (counted bytes).2
    let l := min 4095 (u * r.size / (36 * r.measure) + p)
    let d := min 65535 (l * r.leading)
    let below := counted (bytes.take (s.copyfit.cursor - off))
    let recounted : Story := { r with
      u := u, p := p, l := l, d := d
      fit := if r.hole = 0 then .unset else if d > r.hole + r.leading then .over
        else if d + r.leading < r.hole then .under else .fits }
    ∃ t, exec .drain s = .next t ∧ (∀ m, m ≠ n → t.story m = s.story m)
      ∧ ((r.state = .free ∨ r.state = .killed) → t.story n = r)
      ∧ (r.state ≠ .free → r.state ≠ .killed →
          (r.recount = .waiting → t.story n = r)
          ∧ (r.recount = .counting → t.story n = { r with u := below.1, p := below.2 })
          ∧ (r.recount = .idle →
              (t.story n = recounted ∨ (u = r.u ∧ p = r.p ∧ t.story n = r))
              ∧ ((u ≠ r.u ∨ p ≠ r.p) → MarkItem.story n ∈ t.marks)
              ∧ ((∀ b, b ∈ bytes → s.width r.font b.1 = s.width r.font b.2 ∧ para b.1 = para b.2) → t.story n = r)))

/-- R86, R91, R96, R101: main memory changes only by a drain, by the writes of outcomes, indices, notices, images, key records
and key ring headers, and by a reset that finishes such an operation. A law of the model's memory: a write of bytes changes
those bytes and no other, and a byte written is the byte that a later read returns. -/
def Obligations.NoOtherCommandWritesMemory : Prop :=
  (∀ (c : Instr) (s t : State), storesToMemory c = false → exec c s = .next t → t.mem = s.mem)
  ∧ ∀ (m : Memory) (a : Nat) (bs : List Byte) (x : Nat),
      (m.writeBytes a bs).read x = if a ≤ x ∧ x < a + bs.length then bs.getD (x - a) 0#8 else m.read x

/-! ## Requests: the checks of the request engine -/

/-- R162: the engine's own checks. In NOT CONFIGURED every request but RELOAD is answered NOT_READY; a requester that is
neither the system nor an enabled terminal is answered NO_TERMINAL; nothing else changes. A record whose kind names no
request is answered BAD_ARG. A record is read and its request dispatched in one step (log entry 6). -/
def Obligations.TheEngineChecksEveryRequest : Prop :=
  ∀ s : State, s.grant = some .requestRead →
    (∀ c k, (c, k) ∈ requestKinds → s.request.kind = k →
      (s.part = .notConfigured → k ≠ 21 →
        ∃ t, exec c s = .next t ∧ Answered .notReady 0 s t ∧ Only [.path, .engine] s t)
      ∧ ((s.part = .notConfigured → k = 21) →
          (64 < s.request.requester ∨ (s.request.requester ≠ 0 ∧ s.enabled s.request.requester = false)) →
        ∃ t, exec c s = .next t ∧ Answered .noTerminal 0 s t ∧ Only [.path, .engine] s t))
    ∧ ((s.request.kind = 0 ∨ 21 < s.request.kind) →
      ∃ t, exec .unknownRequest s = .next t ∧ Answered .badArg 0 s t ∧ Only [.path, .engine] s t)

/-! ## Requests: stories -/

/-- R9, R10: REGISTER: its checks in order; the FREE record becomes a FILED story with the clamped style, the last of its
class in its basket, WAITING at the back of the recount list with the youngest queued write as its drain tag. -/
def Obligations.RegisterFilesAStory : Prop :=
  ∀ s : State, Asked 1 s →
    let n := s.request.story
    let base := s.request.u32 12
    let cap := s.request.u8 16
    let edition := s.request.u8 17
    let b := s.request.u8 18
    let urgent := s.request.u8 19 != 0
    let taken := storyNumbers.any (fun m => (s.story m).state != .free && decide (0 < (s.story m).capacity
        ∧ base < (s.story m).base + 256 * (s.story m).capacity ∧ (s.story m).base < base + 256 * cap))
      || decide (base < s.base + 65536 ∧ s.base < base + 256 * cap)
    let font := min 3 (s.request.u8 20)
    let size := max 8 (min 144 (s.request.u8 21))
    let measure := max 36 (min 720 (s.request.u16 22))
    let leading := max 8 (min 288 (s.request.u16 24))
    ∃ t, exec .register s = .next t
      ∧ if validStory n = false then Answered .noStory 0 s t ∧ Only [.path, .engine] s t
        else if base % 256 ≠ 0 ∨ addressSpace ≤ base ∨ cap = 0 ∨ 64 < cap ∨ addressSpace < base + 256 * cap
            ∨ 4 < edition ∨ validBasket b = false then
          Answered .badArg 0 s t ∧ Only [.path, .engine] s t
        else if (s.story n).state ≠ .free then Answered .badState 0 s t ∧ Only [.path, .engine] s t
        else if taken = true then Answered .overlap 0 s t ∧ Only [.path, .engine] s t
        else
          Answered (if font = s.request.u8 20 ∧ size = s.request.u8 21 ∧ measure = s.request.u16 22
              ∧ leading = s.request.u16 24 then .done else .clamped) 0 s t
          ∧ t.story n = { Story.freed with
              state := .filed, base := base, capacity := cap, edition := edition, basket := b, urgent := urgent,
              font := font, size := size, measure := measure, leading := leading, fit := .counting,
              recount := .waiting }
          ∧ t.basket b = (if urgent then
                (s.basket b).take ((s.basket b).countP (fun m => (t.story m).urgent))
                  ++ n :: (s.basket b).drop ((s.basket b).countP (fun m => (t.story m).urgent))
              else s.basket b ++ [n])
          ∧ t.copyfit = { s.copyfit with
              list := s.copyfit.list ++ [⟨n, s.path.queue.getLast?.map (fun e => e.seq)⟩] }
          ∧ (∀ m, m ≠ n → t.story m = s.story m) ∧ (∀ c, c ≠ b → t.basket c = s.basket c)
          ∧ MarkItem.story n ∈ t.marks ∧ MarkItem.basket b ∈ t.marks
          ∧ Only [.path, .engine, .stories, .baskets, .copyfit] s t

/-- R11: TAKE: its checks in order; the requester becomes the holder and the story HELD, in its place in its basket. -/
def Obligations.TakeMakesTheRequesterTheHolder : Prop :=
  ∀ s : State, Asked 2 s →
    let n := s.request.story
    let q := s.request.requester
    let r := s.story n
    let o : ReqOutcome :=
      if q = 0 then .badArg
      else if n = 0 ∨ 511 < n then .noStory
      else if r.state = .held ∧ r.holder = q then .holding
      else if r.state = .held then .held
      else if r.state ≠ .filed then .badState
      else if s.heldBy q ≠ 0 then .holding
      else if (s.term q).cfg.rank = .reporter ∧ s.restricted r.edition = true then .rank
      else .done
    ∃ t, exec .take s = .next t ∧ Answered o 0 s t ∧ Only [.path, .engine, .stories] s t
      ∧ (o = .done → t.story n = { r with state := .held, holder := q } ∧ MarkItem.story n ∈ t.marks)
      ∧ (o ≠ .done → t.stories = s.stories)
      ∧ ∀ m, m ≠ n → t.story m = s.story m

/-- R12: RETURN: its checks in order; the holder becomes 0 and the story FILED, in its place in its basket. -/
def Obligations.ReturnGivesTheStoryBack : Prop :=
  ∀ s : State, Asked 3 s →
    let n := s.request.story
    let q := s.request.requester
    let r := s.story n
    let o : ReqOutcome :=
      if n = 0 ∨ 511 < n then .noStory
      else if r.state ≠ .held then .badState
      else if q ≠ r.holder ∧ q ≠ 0 then .rank
      else .done
    ∃ t, exec .returnStory s = .next t ∧ Answered o 0 s t ∧ Only [.path, .engine, .stories] s t
      ∧ (o = .done → t.story n = { r with state := .filed, holder := 0 } ∧ MarkItem.story n ∈ t.marks)
      ∧ (o ≠ .done → t.stories = s.stories)
      ∧ ∀ m, m ≠ n → t.story m = s.story m

/-- R4, R5, R13, R14: FILE: its checks in order; the holder is cleared, and unless basket and class stay the same the story
leaves its basket and joins the named one as the last of its class. -/
def Obligations.FileMovesTheStory : Prop :=
  ∀ s : State, Asked 4 s →
    let n := s.request.story
    let b := s.request.u8 10
    let u := s.request.u8 11 != 0
    let q := s.request.requester
    let r := s.story n
    let o : ReqOutcome :=
      if n = 0 ∨ 511 < n then .noStory
      else if b = 0 ∨ 23 < b then .badArg
      else if r.state ≠ .filed ∧ r.state ≠ .held then .badState
      else if r.state = .held ∧ r.holder ≠ q ∧ q ≠ 0 then .held
      else .done
    ∃ t, exec .file s = .next t ∧ Answered o 0 s t ∧ Only [.path, .engine, .stories, .baskets] s t
      ∧ (∀ m, m ≠ n → t.story m = s.story m)
      ∧ (o ≠ .done → t.stories = s.stories ∧ t.baskets = s.baskets)
      ∧ (o = .done → t.story n = { r with state := .filed, holder := 0, basket := b, urgent := u }
          ∧ (r.basket = b ∧ r.urgent = u → t.baskets = s.baskets)
          ∧ (¬(r.basket = b ∧ r.urgent = u) →
              let rest := if r.basket = b then (s.basket b).erase n else s.basket b
              let k := rest.countP (fun m => (t.story m).urgent)
              t.basket b = (if u then rest.take k ++ n :: rest.drop k else rest ++ [n])
              ∧ (r.basket ≠ b → t.basket r.basket = (s.basket r.basket).erase n)
              ∧ ∀ c, c ≠ b → c ≠ r.basket → t.basket c = s.basket c))

/-- R15, R16, R36, R71: KILL: its checks in order; the story leaves its basket, its holder, its page and the recount list and
becomes KILLED; later placements of the page move up; an abandoned recount leaves the depth of the L held. -/
def Obligations.KillWithdrawsTheStory : Prop :=
  ∀ s : State, PlacementsRight s → Asked 5 s →
    let n := s.request.story
    let q := s.request.requester
    let r := s.story n
    let d := min 65535 (r.l * r.leading)
    let o : ReqOutcome :=
      if n = 0 ∨ 511 < n then .noStory
      else if s.isReporter q = true then .rank
      else if r.state ≠ .filed ∧ r.state ≠ .held then .badState
      else if r.state = .held ∧ r.holder ≠ q ∧ s.isEditor q = true then .held
      else .done
    ∃ t, exec .kill s = .next t ∧ Answered o 0 s t
      ∧ Only [.path, .engine, .stories, .baskets, .pages, .copyfit] s t
      ∧ (o ≠ .done → t.stories = s.stories ∧ t.baskets = s.baskets ∧ t.pages = s.pages ∧ t.copyfit = s.copyfit)
      ∧ (o = .done →
          t.story n = { r with
            state := .killed, holder := 0, basket := 0, placement := none, recount := .idle
            d := if r.recount = .idle then r.d else d
            fit := if r.recount = .idle then r.fit else fitOf d r.hole r.leading }
          ∧ t.basket r.basket = (s.basket r.basket).erase n ∧ (∀ c, c ≠ r.basket → t.basket c = s.basket c)
          ∧ t.copyfit = (if r.recount = .idle then s.copyfit
              else { s.copyfit with list := s.copyfit.list.filter (fun e => e.story ≠ n) })
          ∧ (r.placement = none → t.pages = s.pages ∧ ∀ m, m ≠ n → t.story m = s.story m)
          ∧ (∀ p i, r.placement = some (p, i) →
              t.page p = { s.page p with placements := (s.page p).placements.eraseIdx i }
              ∧ (∀ g, g ≠ p → t.page g = s.page g)
              ∧ ∀ m, m ≠ n → t.story m =
                  match (s.story m).placement with
                  | some (g, j) =>
                    if g = p ∧ i < j then { s.story m with placement := some (p, j - 1) } else s.story m
                  | none => s.story m))

/-- R17, R36: PURGE: its checks in order; the record takes the FREE values and a recount of the story is abandoned. -/
def Obligations.PurgeFreesTheRecord : Prop :=
  ∀ s : State, Asked 6 s →
    let n := s.request.story
    let r := s.story n
    let o : ReqOutcome :=
      if n = 0 ∨ 511 < n then .noStory
      else if s.isReporter s.request.requester = true ∨ s.isEditor s.request.requester = true then .rank
      else if r.state ≠ .killed ∧ ¬(r.state = .set ∧ r.placement = none) then .badState
      else .done
    ∃ t, exec .purge s = .next t ∧ Answered o 0 s t ∧ Only [.path, .engine, .stories, .copyfit] s t
      ∧ (o ≠ .done → t.stories = s.stories ∧ t.copyfit = s.copyfit)
      ∧ (o = .done → t.story n = Story.freed
          ∧ t.copyfit = (if r.recount = .idle then s.copyfit
              else { s.copyfit with list := s.copyfit.list.filter (fun e => e.story ≠ n) })
          ∧ MarkItem.story n ∈ t.marks)
      ∧ ∀ m, m ≠ n → t.story m = s.story m

/-! ## Requests and steps: copyfit -/

/-- R26, R27, R31, R35: LOADWIDTHS: its checks in order. With the built-in flag it completes at once: the font's table and
source, the image mark, the part state word's mark when the source changes, and the stories of the font into recount, a COUNTING
one from the beginning of its block. Without it, the request stays in progress until its pieces are read. -/
def Obligations.LoadwidthsLoadsOrBegins : Prop :=
  ∀ s : State, Asked 7 s →
    let f := s.request.u8 8
    let src := s.request.u32 12
    ∃ t, exec .loadwidths s = .next t
      ∧ if s.request.requester ≠ 0 then Answered .rank 0 s t ∧ Only [.path, .engine] s t
        else if 3 < f then Answered .badArg 0 s t ∧ Only [.path, .engine] s t
        else if s.request.u8 9 ≠ 0 then
          Answered .done 0 s t ∧ Only [.path, .engine, .stories, .copyfit] s t
          ∧ t.copyfit.tables = s.copyfit.tables.set0 f builtinTable
          ∧ t.copyfit.loaded = s.copyfit.loaded.set0 f false ∧ MarkItem.widths f ∈ t.marks
          ∧ (s.copyfit.loaded.at0 false f = true → MarkItem.partState ∈ t.marks)
          ∧ Recounted (fun n => (s.story n).font == f) s.copyfit.list s t
        else if src % 16 ≠ 0 ∨ addressSpace < src + 224 then Answered .badArg 0 s t ∧ Only [.path, .engine] s t
        else
          t.engine = { s.engine with progress := some (.loadingWidths f src [] 0) } ∧ Only [.path, .engine] s t

/-- R26, R27, R31, R35: a piece of a width-table load: 16 bytes read as memory stands, each the width of one code and clamped
to 36. The last piece completes the load: table, source LOADED, image mark, CLAMPED with the number of widths clamped, or
DONE, and the stories of the font into recount, a COUNTING one from the beginning of its block. A piece is granted and read in
one step (log entry 6). -/
def Obligations.WidthPiecesFillTheTable : Prop :=
  ∀ (s : State) (f src : Nat) (ws : List Nat) (c : Nat), s.grant = some .widthPiece → f ≤ 3 →
    s.engine.progress = some (.loadingWidths f src ws c) →
    let bs := s.mem.readBytes (src + ws.length) 16
    let ws' := ws ++ bs.map (fun b => min 36 b.toNat)
    let c' := c + bs.countP (fun b => decide (36 < b.toNat))
    ∃ t, exec .widthPieceRead s = .next t
      ∧ (ws.length + 16 < 224 →
          t.engine = { s.engine with progress := some (.loadingWidths f src ws' c') } ∧ Only [.path, .engine] s t)
      ∧ (224 ≤ ws.length + 16 →
          t.engine = { s.engine with progress := some (.answered (if c' = 0 then .done else .clamped) c' .plain) }
          ∧ (∀ i, i < 224 → (t.copyfit.tables.at0 builtinTable f).at0 0 i = ws'.getD i 0)
          ∧ t.copyfit.loaded = s.copyfit.loaded.set0 f true ∧ MarkItem.widths f ∈ t.marks
          ∧ (∀ g, g ≠ f → t.copyfit.tables.at0 builtinTable g = s.copyfit.tables.at0 builtinTable g)
          ∧ (s.copyfit.loaded.at0 false f = false → MarkItem.partState ∈ t.marks)
          ∧ Recounted (fun n => (s.story n).font == f) s.copyfit.list s t
          ∧ Only [.path, .engine, .stories, .copyfit] s t)

/-- R42, R43: STYLE: its checks in order; the clamped style is stored; a change of font puts the story into recount, any other
change of an IDLE story recomputes L, D and the fit at once. -/
def Obligations.StyleSetsTheStyle : Prop :=
  ∀ s : State, Asked 8 s →
    let n := s.request.story
    let q := s.request.requester
    let r := s.story n
    let font := min 3 (s.request.u8 10)
    let size := max 8 (min 144 (s.request.u8 11))
    let measure := max 36 (min 720 (s.request.u16 12))
    let leading := max 8 (min 288 (s.request.u16 14))
    let r' := { r with font := font, size := size, measure := measure, leading := leading }
    let l := min 4095 (r.u * size / (36 * measure) + r.p)
    let d := min 65535 (l * leading)
    ∃ t, exec .style s = .next t ∧ Only [.path, .engine, .stories, .copyfit] s t
      ∧ (∀ m, m ≠ n → t.story m = s.story m)
      ∧ if n = 0 ∨ 511 < n then Answered .noStory 0 s t ∧ t.stories = s.stories ∧ t.copyfit = s.copyfit
        else if r.state ≠ .filed ∧ r.state ≠ .held then
          Answered .badState 0 s t ∧ t.stories = s.stories ∧ t.copyfit = s.copyfit
        else if r.state = .held ∧ r.holder ≠ q ∧ q ≠ 0 then
          Answered .held 0 s t ∧ t.stories = s.stories ∧ t.copyfit = s.copyfit
        else if s.isReporter q = true ∧ ¬(r.state = .held ∧ r.holder = q) then
          Answered .rank 0 s t ∧ t.stories = s.stories ∧ t.copyfit = s.copyfit
        else
          Answered (if font = s.request.u8 10 ∧ size = s.request.u8 11 ∧ measure = s.request.u16 12
              ∧ leading = s.request.u16 14 then .done else .clamped) 0 s t
          ∧ (r' = r → t.story n = r ∧ t.copyfit = s.copyfit)
          ∧ (r' ≠ r → font = r.font → t.copyfit = s.copyfit
              ∧ t.story n = if r.recount = .idle then { r' with l := l, d := d, fit := fitOf d r.hole leading } else r')
          ∧ (font ≠ r.font →
              match r.recount with
              | .idle => t.story n = { r' with recount := .waiting, fit := .counting }
                  ∧ t.copyfit = { s.copyfit with list := s.copyfit.list ++ [⟨n, none⟩] }
              | .waiting => t.story n = r' ∧ t.copyfit = s.copyfit
              | .counting => t.story n = { r' with u := 0, p := 0 } ∧ t.copyfit = { s.copyfit with cursor := 0 })

/-- R40, R44, R65: ALLOT: its checks in order; the hole is set, the fit of an IDLE story is recomputed, and the placement's
hole follows. -/
def Obligations.AllotSetsTheHole : Prop :=
  ∀ s : State, PlacementsRight s → Asked 9 s →
    let n := s.request.story
    let a := s.request.u32 12
    let r := s.story n
    let l := min 4095 (r.u * r.size / (36 * r.measure) + r.p)
    let d := min 65535 (l * r.leading)
    let o : ReqOutcome :=
      if n = 0 ∨ 511 < n then .noStory
      else if 65535 < a then .badArg
      else if s.isReporter s.request.requester = true then .rank
      else if r.state ≠ .filed ∧ r.state ≠ .held then .badState
      else .done
    ∃ t, exec .allot s = .next t ∧ Answered o 0 s t ∧ Only [.path, .engine, .stories, .pages] s t
      ∧ (∀ m, m ≠ n → t.story m = s.story m)
      ∧ (o ≠ .done → t.stories = s.stories ∧ t.pages = s.pages)
      ∧ (o = .done →
          t.story n = (if r.recount = .idle then { r with hole := a, l := l, d := d, fit := fitOf d a r.leading }
            else { r with hole := a })
          ∧ (r.placement = none → t.pages = s.pages)
          ∧ ∀ p i, r.placement = some (p, i) →
              t.page p = { s.page p with placements := (s.page p).placements.set i ⟨n, a⟩ }
              ∧ ∀ g, g ≠ p → t.page g = s.page g)

/-- R33, R34, R38 to R40: a recount starts when the first entry of the list is WAITING and its drain tag is absent or met:
U, P and the cursor become 0 and the story COUNTING; until then nothing happens. A piece of a recount adds the widths and
the paragraph codes of 16 bytes and moves the cursor; the piece that reaches the end of the block takes the story out of
the list, IDLE, with L, D and the fit recomputed. The start is a step of its own (log entry 12); a piece is granted and
read in one step (log entry 6). -/
def Obligations.RecountsCountTheText : Prop :=
  (∀ (s : State) (e : RecountEntry) (l : List RecountEntry), s.part = .running → s.copyfit.list = e :: l →
      validStory e.story = true →
      ∃ t, exec .recountStart s = .next t
        ∧ ((s.story e.story).recount = .waiting → e.tag = none →
            t.story e.story = { s.story e.story with u := 0, p := 0, recount := .counting }
            ∧ (∀ m, m ≠ e.story → t.story m = s.story m) ∧ t.copyfit = { s.copyfit with cursor := 0 }
            ∧ MarkItem.story e.story ∈ t.marks ∧ Only [.stories, .copyfit] s t)
        ∧ (((s.story e.story).recount ≠ .waiting ∨ e.tag ≠ none) → t = s))
  ∧ ∀ (s : State) (e : RecountEntry) (q : List RecountEntry), s.grant = some .recountPiece → s.copyfit.list = e :: q →
      let n := e.story
      let r := s.story n
      let bs := s.mem.readBytes (r.base + s.copyfit.cursor) 16
      let u := r.u + (bs.map (s.width r.font)).sum
      let p := r.p + bs.countP (fun b => b == 0x1E#8)
      let l := min 4095 (u * r.size / (36 * r.measure) + p)
      let d := min 65535 (l * r.leading)
      ∃ t, exec .recountPieceRead s = .next t ∧ (∀ m, m ≠ n → t.story m = s.story m)
        ∧ Only [.path, .stories, .copyfit] s t
        ∧ (s.copyfit.cursor + 16 < 256 * r.capacity →
            t.story n = { r with u := u, p := p } ∧ t.copyfit = { s.copyfit with cursor := s.copyfit.cursor + 16 })
        ∧ (256 * r.capacity ≤ s.copyfit.cursor + 16 →
            t.story n = { r with
              u := u, p := p, l := l, d := d, fit := fitOf d r.hole r.leading, recount := .idle }
            ∧ t.copyfit = { s.copyfit with
                cursor := s.copyfit.cursor + 16, list := s.copyfit.list.filter (fun x => x.story ≠ n) }
            ∧ MarkItem.story n ∈ t.marks)

/-! ## Requests: pages -/

/-- R68: SETPAGE: its checks in order; printed number, edition and section take the new values and nothing else changes. -/
def Obligations.SetpageGivesAnIdentity : Prop :=
  ∀ s : State, Asked 13 s →
    let p := s.request.page
    let printed := s.request.u16 12
    let edition := s.request.u8 9
    let sec := s.request.u8 10
    let g := s.page p
    let o : ReqOutcome :=
      if 95 < p then .noPage
      else if s.isReporter s.request.requester = true then .rank
      else if printed = 0 ∨ 999 < printed ∨ edition = 0 ∨ 4 < edition ∨ sec < 0x41 ∨ 0x5A < sec then .badArg
      else if g.state ≠ .empty ∧ g.state ≠ .makeup then .badState
      else .done
    ∃ t, exec .setpage s = .next t ∧ Answered o 0 s t ∧ Only [.path, .engine, .pages] s t
      ∧ (o ≠ .done → t.pages = s.pages)
      ∧ (o = .done → t.page p = { g with printed := printed, edition := edition, sectionCode := sec })
      ∧ ∀ k, k ≠ p → t.page k = s.page k

/-- R69, R70: PLACE: its checks in order; the story joins the page's list at the end with its hole, its fit is recomputed when
it is IDLE, an EMPTY page becomes MAKEUP, and the note gives the position. -/
def Obligations.PlaceAppendsToThePage : Prop :=
  ∀ s : State, Asked 14 s →
    let n := s.request.story
    let p := s.request.u8 10
    let a := s.request.u32 12
    let r := s.story n
    let g := s.page p
    let l := min 4095 (r.u * r.size / (36 * r.measure) + r.p)
    let d := min 65535 (l * r.leading)
    let o : ReqOutcome :=
      if n = 0 ∨ 511 < n then .noStory
      else if 95 < p then .noPage
      else if 65535 < a then .badArg
      else if s.isReporter s.request.requester = true then .rank
      else if g.state ≠ .empty ∧ g.state ≠ .makeup ∧ g.state ≠ .late then .badState
      else if g.edition = 0 then .badState
      else if r.state ≠ .filed ∧ r.state ≠ .held then .badState
      else if r.placement ≠ none then .badState
      else if 12 ≤ g.placements.length then .full
      else .done
    let pos := g.placements.length
    ∃ t, exec .place s = .next t ∧ Answered o (if o = .done then pos else 0) s t
      ∧ Only [.path, .engine, .stories, .pages] s t
      ∧ (o ≠ .done → t.stories = s.stories ∧ t.pages = s.pages)
      ∧ (o = .done →
          t.page p = { g with
            placements := g.placements ++ [⟨n, a⟩], state := if g.state = .empty then .makeup else g.state }
          ∧ t.story n = (if r.recount = .idle then
              { r with placement := some (p, pos), hole := a, l := l, d := d, fit := fitOf d a r.leading }
            else { r with placement := some (p, pos), hole := a }))
      ∧ (∀ m, m ≠ n → t.story m = s.story m) ∧ ∀ k, k ≠ p → t.page k = s.page k

/-- R71: UNPLACE: its checks in order; the story leaves its page's list, later entries move up one position, and the story's
hole, counts and fit and the page's state stay. -/
def Obligations.UnplaceRemovesThePlacement : Prop :=
  ∀ s : State, PlacementsRight s → Asked 15 s →
    let n := s.request.story
    let r := s.story n
    ∃ t, exec .unplace s = .next t ∧ Only [.path, .engine, .stories, .pages] s t
      ∧ if n = 0 ∨ 511 < n then Answered .noStory 0 s t ∧ t.stories = s.stories ∧ t.pages = s.pages
        else if s.isReporter s.request.requester = true then
          Answered .rank 0 s t ∧ t.stories = s.stories ∧ t.pages = s.pages
        else match r.placement with
          | none => Answered .badState 0 s t ∧ t.stories = s.stories ∧ t.pages = s.pages
          | some (p, i) =>
            if (s.page p).state ≠ .makeup ∧ (s.page p).state ≠ .late then
              Answered .badState 0 s t ∧ t.stories = s.stories ∧ t.pages = s.pages
            else
              Answered .done 0 s t ∧ t.story n = { r with placement := none }
              ∧ t.page p = { s.page p with placements := (s.page p).placements.eraseIdx i }
              ∧ (∀ g, g ≠ p → t.page g = s.page g)
              ∧ ∀ m, m ≠ n → t.story m =
                  match (s.story m).placement with
                  | some (g, j) =>
                    if g = p ∧ i < j then { s.story m with placement := some (p, j - 1) } else s.story m
                  | none => s.story m

/-- R18, R72, R73: RELEASE: its checks in order, the first failing story in the note; the page becomes QUEUED and joins the
send queue at the back, and each placed story leaves its basket and becomes QUEUED. -/
def Obligations.ReleaseQueuesThePage : Prop :=
  ∀ s : State, PlacementsRight s → Asked 16 s →
    let p := s.request.page
    let q := s.request.requester
    let g := s.page p
    let placed := g.placements.map (fun x => x.story)
    let held := placed.find? (fun n => (s.story n).state == .held)
    let unfit := placed.find? (fun n => (s.story n).fit != .fits)
    let override := s.request.u8 9 ≠ 0 ∧ s.isEditor q = false
    let o : ReqOutcome × Nat :=
      if 95 < p then (.noPage, 0)
      else if s.isReporter q = true then (.rank, 0)
      else if g.state ≠ .makeup ∧ g.state ≠ .late then (.badState, 0)
      else if g.state = .late ∧ s.isEditor q = true then (.rank, 0)
      else if placed = [] then (.badState, 0)
      else match held with
        | some n => (.held, n)
        | none => match unfit with
          | some n => if override then (.done, 0) else (.unfit, n)
          | none => (.done, 0)
    ∃ t, exec .release s = .next t ∧ Answered o.1 o.2 s t
      ∧ Only [.path, .engine, .stories, .baskets, .pages, .sendQueue] s t
      ∧ (o.1 ≠ .done → t.stories = s.stories ∧ t.baskets = s.baskets ∧ t.pages = s.pages ∧ t.sendQueue = s.sendQueue)
      ∧ (o.1 = .done →
          t.page p = { g with state := .queued } ∧ (∀ k, k ≠ p → t.page k = s.page k)
          ∧ t.sendQueue = s.sendQueue ++ [p]
          ∧ (∀ n, n ∈ placed → t.story n = { s.story n with state := .queued, basket := 0 })
          ∧ (∀ n, n ∉ placed → t.story n = s.story n)
          ∧ ∀ b, t.basket b =
              (placed.filter (fun n => (s.story n).basket == b)).foldl (fun l n => l.erase n) (s.basket b))

/-- R20, R80: REOPEN: its checks in order; the SENT page becomes MAKEUP, and each placed story becomes FILED and joins the
named basket, in placement order. -/
def Obligations.ReopenReturnsThePage : Prop :=
  ∀ s : State, PlacementsRight s → Asked 17 s →
    let p := s.request.page
    let b := s.request.u8 9
    let g := s.page p
    let placed := g.placements.map (fun x => x.story)
    let joined := fun (l : List Nat) (n : Nat) =>
      let k := l.countP (fun m => (s.story m).urgent)
      if (s.story n).urgent then l.take k ++ n :: l.drop k else l ++ [n]
    let o : ReqOutcome :=
      if 95 < p then .noPage
      else if s.isReporter s.request.requester = true ∨ s.isEditor s.request.requester = true then .rank
      else if b = 0 ∨ 23 < b then .badArg
      else if g.state ≠ .sent then .badState
      else .done
    ∃ t, exec .reopen s = .next t ∧ Answered o 0 s t ∧ Only [.path, .engine, .stories, .baskets, .pages] s t
      ∧ (o ≠ .done → t.stories = s.stories ∧ t.baskets = s.baskets ∧ t.pages = s.pages)
      ∧ (o = .done →
          t.page p = { g with state := .makeup } ∧ (∀ k, k ≠ p → t.page k = s.page k)
          ∧ (∀ n, n ∈ placed → t.story n = { s.story n with state := .filed, basket := b })
          ∧ (∀ n, n ∉ placed → t.story n = s.story n)
          ∧ t.basket b = placed.foldl joined (s.basket b)
          ∧ ∀ c, c ≠ b → t.basket c = s.basket c)

/-- R20, R81: CLEAR: its checks in order; the page loses every placement and becomes EMPTY with resume point (0, 0), keeping
its identity; a QUEUED story becomes FILED in basket 23, and a story in another state keeps it. -/
def Obligations.ClearEmptiesThePage : Prop :=
  ∀ s : State, PlacementsRight s → Asked 18 s →
    let p := s.request.page
    let q := s.request.requester
    let g := s.page p
    let placed := g.placements.map (fun x => x.story)
    let joined := fun (l : List Nat) (n : Nat) =>
      let k := l.countP (fun m => (s.story m).urgent)
      if (s.story n).urgent then l.take k ++ n :: l.drop k else l ++ [n]
    let back := placed.filter (fun n => (s.story n).state == .queued)
    let o : ReqOutcome :=
      if 95 < p then .noPage
      else if s.isReporter q = true then .rank
      else if g.state = .empty ∨ g.state = .queued ∨ g.state = .sending then .badState
      else if g.state = .faulted ∧ s.isEditor q = true then .rank
      else .done
    ∃ t, exec .clear s = .next t ∧ Answered o 0 s t ∧ Only [.path, .engine, .stories, .baskets, .pages] s t
      ∧ (o ≠ .done → t.stories = s.stories ∧ t.baskets = s.baskets ∧ t.pages = s.pages)
      ∧ (o = .done →
          t.page p = { g with placements := [], state := .empty, resumePos := 0, resumeOff := 0 }
          ∧ (∀ k, k ≠ p → t.page k = s.page k)
          ∧ (∀ n, n ∈ placed → t.story n =
              if (s.story n).state = .queued then { s.story n with state := .filed, basket := 23, placement := none }
              else { s.story n with placement := none })
          ∧ (∀ n, n ∉ placed → t.story n = s.story n)
          ∧ t.basket 23 = back.foldl joined (s.basket 23)
          ∧ ∀ c, c ≠ 23 → t.basket c = s.basket c)

/-- R20, R79: RESUME: its checks in order; the FAULTED page becomes QUEUED at the head of the send queue, from its resume point
or from the start; FROM_START makes its SET stories QUEUED again. -/
def Obligations.ResumeRequeuesThePage : Prop :=
  ∀ s : State, Asked 19 s →
    let p := s.request.page
    let mode := s.request.u8 9
    let g := s.page p
    let placed := g.placements.map (fun x => x.story)
    let o : ReqOutcome :=
      if 95 < p then .noPage
      else if s.isReporter s.request.requester = true ∨ s.isEditor s.request.requester = true then .rank
      else if mode ≠ 1 ∧ mode ≠ 2 then .badArg
      else if g.state ≠ .faulted then .badState
      else .done
    ∃ t, exec .resume s = .next t ∧ Answered o 0 s t ∧ Only [.path, .engine, .stories, .pages, .sendQueue] s t
      ∧ (o ≠ .done → t.stories = s.stories ∧ t.pages = s.pages ∧ t.sendQueue = s.sendQueue)
      ∧ (o = .done →
          t.page p = { g with
            state := .queued
            resumePos := if mode = 1 then g.resumePos else 0
            resumeOff := if mode = 1 then g.resumeOff else 0 }
          ∧ (∀ k, k ≠ p → t.page k = s.page k) ∧ t.sendQueue = p :: s.sendQueue
          ∧ (mode = 1 → t.stories = s.stories)
          ∧ (mode = 2 → ∀ n, t.story n =
              if n ∈ placed ∧ (s.story n).state = .set then { s.story n with state := .queued } else s.story n))

/-! ## RELOAD and the part's own writes -/

/-- R166, R167, R173: RELOAD: RANK for a terminal, BUSY while a page is SENDING, and otherwise accepted: its pieces are read
next. A piece is read as memory stands; the 80th is the validation event: an unusable relocation word brings PASS-THROUGH
and BAD_ARG, each structural error of R167's list BAD_CONFIG, and anything else the configuration that the fields of R173
give, clamped as R167's table says, with DONE, or CLAMPED and the number of clamped values. Before the last piece, and for a
structural error, nothing else changes. A piece is granted and read in one step (log entry 6). -/
def Obligations.ReloadIsReadAndValidated : Prop :=
  (∀ s : State, s.grant = some .requestRead → s.part ≠ .passThrough → s.request.kind = 21 →
      s.knownRequester s.request.requester = true →
      ∃ t, exec .reload s = .next t ∧ Only [.path, .engine] s t
        ∧ if s.request.requester ≠ 0 then Answered .rank 0 s t
          else if s.link.state = .sending then Answered .busy 0 s t
          else t.engine = { s.engine with progress := some (.reloading []) })
  ∧ ∀ (s : State) (bytes : List Byte), s.grant = some .reloadPiece → s.engine.progress = some (.reloading bytes) →
      let piece := s.mem.readBytes (if bytes.length < 256 then s.base + bytes.length
        else s.base + 0xA00 + (bytes.length - 256)) 16
      let all := bytes ++ piece
      let word := configField all 0 4
      let clamps := clampedValues all
      let move := word ≠ 0 ∧ word ≠ s.base
      let error := HasStructuralError s all (if move then word else s.base) move
      ∃ t, exec .reloadPieceRead s = .next t
        ∧ (bytes.length + 16 < 1280 →
            t.engine = { s.engine with progress := some (.reloading all) } ∧ Only [.path, .engine] s t)
        ∧ (1280 ≤ bytes.length + 16 →
            ((word % 65536 ≠ 0 ∨ addressSpace ≤ word) →
              t.engine = { s.engine with progress := some (.answered .badArg 0 .plain) }
              ∧ t.part = .passThrough ∧ t.cause = .badBase ∧ t.base = s.base)
            ∧ (word % 65536 = 0 → word < addressSpace → error →
              t.engine = { s.engine with progress := some (.answered .badConfig 0 .badConfig) }
              ∧ Only [.path, .engine] s t)
            ∧ (word % 65536 = 0 → word < addressSpace → ¬error →
              ∃ c, ConfigRead all c
                ∧ t.engine = { s.engine with progress := some (.answered (if clamps = 0 then .done else .clamped) clamps
                    (.configured c (if move then some word else none))) }
                ∧ Only [.path, .engine] s t))

/-- R37, R129, R147, R159, R169: the entry into PASS-THROUGH: the request is answered BAD_ARG, ATTN is asserted and the PASS
notice handed over; the link is HALTED with its frame left to be shifted out; every line stops: the frame in its shift
register is left to be shifted out, its holding and receive buffers are emptied, a poll in progress ends, and row queue, drop
records, flags and configuration stay; the header writes asked for are dropped, and terminals keep everything else; the
scanner stops; the IDLE stories that are not KILLED join the recount list; pages, send queue, baskets, editions, memory and
base stay. A line that stops leaves its receiver looking for a start bit (log entry 20), and its row position and answer
counts at 0 (log entry 25); both are the model's. -/
def Obligations.PassThroughStopsTheBlocks : Prop :=
  ∀ (s : State) (bytes : List Byte), s.grant = some .reloadPiece → s.engine.progress = some (.reloading bytes) →
    bytes.length = 1264 →
    let word := leNat ((bytes ++ s.mem.readBytes (s.base + 0xA00 + 1008) 16).take 4)
    (word % 65536 ≠ 0 ∨ addressSpace ≤ word) →
    ∃ t, exec .reloadPieceRead s = .next t
      ∧ t.part = .passThrough ∧ t.cause = .badBase ∧ t.pins = { s.pins with attn := true }
      ∧ t.engine = { s.engine with progress := some (.answered .badArg 0 .plain) }
      ∧ t.notices = (s.notify { s.notice .pass .badBase with story := 0 }).notices
      ∧ t.link = { s.link with state := .halted, hold := none, ctx := none }
      ∧ (∀ n, t.line n = { s.line n with
          tx := .idle, rowPos := 0, hold := none, shift := orphaned (s.line n).shift, rx := .looking, buffer := none
          answerFrames := 0, answerKeys := 0 })
      ∧ (∀ k, t.term k = { s.term k with ring := (s.term k).ring.map (fun g => { g with headerAsked := false }) })
      ∧ t.scanner = { s.scanner with visit := none, take := none }
      ∧ t.copyfit = { s.copyfit with list := s.copyfit.list ++ (storyNumbers.filter (fun n => (s.story n).state != .free
          && (s.story n).state != .killed && (s.story n).recount == .idle)).map (fun n => ⟨n, none⟩) }
      ∧ (∀ n, t.story n = if (s.story n).state ≠ .free ∧ (s.story n).state ≠ .killed ∧ (s.story n).recount = .idle then
          { s.story n with recount := .waiting, fit := .counting } else s.story n)
      ∧ MarkItem.partState ∈ t.marks
      ∧ Frame [.path, .engine, .part, .cause, .pins, .notices, .link, .lines, .terms, .scanner, .copyfit, .stories,
          .marks] s t

/-- R162, R168: the outcome write stores outcome, zero and note into bytes 2 to 5 of the request's record. For every
request but a successful RELOAD the consumer index then advances, wrapping from 31 to 0, and its word is asked for, and
nothing else changes. The write is granted and served in one step (log entry 6). -/
def Obligations.OutcomesAreWritten : Prop :=
  ∀ (s : State) (o : ReqOutcome) (note : Nat) (after : AfterOutcome), s.grant = some .outcomeWrite →
    s.engine.progress = some (.answered o note after) →
    let a := s.base + 0x200 + 32 * s.engine.consumer
    ∃ t, exec .outcomeWrite s = .next t
      ∧ t.mem.read (a + 2) = BitVec.ofNat 8 o.code ∧ t.mem.read (a + 3) = 0#8
      ∧ t.mem.read (a + 4) = BitVec.ofNat 8 note ∧ t.mem.read (a + 5) = BitVec.ofNat 8 (note / 256)
      ∧ (∀ x, x < a + 2 ∨ a + 6 ≤ x → t.mem.read x = s.mem.read x)
      ∧ ((after = .plain ∨ after = .badConfig) →
          t.engine = { s.engine with
            consumer := (s.engine.consumer + 1) % 32, progress := some .indexWord, wordFlag := true }
          ∧ Only [.path, .mem, .engine] s t)

/-- R99, R114, R131, R144, R152, R168: the completion event of a successful RELOAD, but for what lines and dirty sets go
through (LinesFollowTheReload): RUNNING with cause RELOAD, the new configuration of terminals, lines, link, slices, start
terminal and G in force, every image marked and both index words asked for. With a move, base, indices, discarded notices, the
latched context and the queue's memberships in the old area are as R168 and R99 say; with no move, the consumer index advances.
A ring that begins is empty and asks for its header. A screen repainted for its new base is one that was enabled before and is
enabled after (log entry 21). -/
def Obligations.ReloadTakesEffect : Prop :=
  ∀ (s : State) (o : ReqOutcome) (note : Nat) (c : LoadedConfig) (move : Option Nat), s.grant = some .outcomeWrite →
    s.engine.progress = some (.answered o note (.configured c move)) →
    let inOldArea := fun (m : Membership) => m == .contextWord || m == .requestProducer || m == .noticeConsumer
      || m == .hostLocation || m == .partWritten true
    ∃ t, exec .outcomeWrite s = .next t
      ∧ t.part = .running ∧ t.cause = .reload
      ∧ t.link = { s.link with divisor := c.linkDivisor, timeout := c.linkTimeout }
      ∧ t.clock = { s.clock with grace := c.grace }
      ∧ t.scanner.pos = c.start ∧ t.scanner.slice1 = c.slice1 ∧ t.scanner.slice2 = c.slice2
      ∧ (∀ n, n < 16 → (t.line n).cfg = c.lines.at0 LineCfg.off n
          ∧ (t.line n).error = (s.line n).error ∧ (t.line n).overrun = (s.line n).overrun
          ∧ (t.line n).brk = (s.line n).brk)
      ∧ (∀ k, 1 ≤ k → k ≤ 64 →
          (t.term k).cfg = c.terms.at1 TermCfg.off k
          ∧ (t.term k).ring = (if (t.term k).cfg.enabled = false then none
              else if s.enabled k = true ∧ (s.term k).cfg.ring = (t.term k).cfg.ring then (s.term k).ring
              else some ⟨0, 0, false, true⟩)
          ∧ ((t.term k).cfg.enabled = false → (t.term k).dirty = Table.fill 24 false ∧ (t.term k).lastTaken = none)
          ∧ (s.enabled k = true → (t.term k).cfg.enabled = true → (t.term k).cfg.screen ≠ (s.term k).cfg.screen →
              (t.term k).dirty = Table.fill 24 true))
      ∧ (∀ i, i ∈ allMarkItems → i ∈ t.marks)
      ∧ t.engine.wordFlag = true ∧ t.notices.wordFlag = true ∧ t.engine.progress = some .indexWord
      ∧ (∀ k, t.refusedFlag k = s.refusedFlag k ∨ ∃ n, k = .terminal n)
      ∧ t.notices.refused = s.notices.refused
      ∧ (move = none → t.base = s.base ∧ t.engine.consumer = (s.engine.consumer + 1) % 32
          ∧ t.engine.latest = s.engine.latest
          ∧ t.notices = { s.notices with wordFlag := true } ∧ t.path.context = s.path.context
          ∧ t.path.queue = s.path.queue)
      ∧ (∀ b, move = some b → t.base = b ∧ t.engine.consumer = 0 ∧ t.engine.latest = 0
          ∧ t.notices.reserved = 0 ∧ t.notices.published = 0 ∧ t.notices.consumer = 0 ∧ t.notices.unwritten = []
          ∧ t.notices.overflow = decide (s.notices.unwritten ≠ []) ∧ t.path.context = 0
          ∧ t.path.queue = s.path.queue.map (fun e => { e with members := e.members.map (fun ms =>
              let kept := ms.filter (fun m => !inOldArea m)
              if kept = [] then [.plain] else kept) }))
      ∧ Frame [.path, .mem, .engine, .notices, .pins, .part, .cause, .base, .lines, .terms, .scanner, .link, .clock,
          .marks] s t

/-- R131, R132, R134, R135, R149, R152, R155: what lines, dirty sets and scanner go through in the completion event of a
successful RELOAD. A line that stops ends its transmitter with the frame in its shift register and returns its rows; one that
starts begins IDLE with every configured drop UP and its first poll at the lowest; one that stays active gives up the rows,
the row being sent, the poll and the key of the terminals that leave it, and goes on. The rows discarded return to the dirty
sets of terminals still enabled, and a line's start, a terminal that joins and a changed screen buffer base repaint all rows.
The last-taken text is kept where the terminal stays enabled, and a row read asked for before will be abandoned. The model's
inferences and choices are the drop records of a line that is not active (log entry 18), a stopped receiver (log entry 20),
its row position and answer counts at 0 (log entry 25), the repaint for a changed base (log entry 21), that on a SHARED
line the poll step follows a row given up (log entry 28), and that a poll is given up in POLL too, before its POLL frame has
been shifted out (log entry 29). -/
def Obligations.LinesFollowTheReload : Prop :=
  ∀ (s : State) (o : ReqOutcome) (note : Nat) (c : LoadedConfig) (move : Option Nat), s.grant = some .outcomeWrite →
    s.engine.progress = some (.answered o note (.configured c move)) →
    let old := fun k => (s.term k).cfg
    let map := fun k => c.terms.at1 TermCfg.off k
    let cfg := fun n => c.lines.at0 LineCfg.off n
    let was := fun n => ActiveIn s.part (s.line n).cfg
    let is := fun n => ActiveIn .running (cfg n)
    let same := fun n => SameFraming (s.line n).cfg (cfg n)
    let stops := fun n => was n && !(is n && same n)
    let starts := fun n => is n && !(was n && same n)
    let stays := fun n => was n && is n && same n
    let leaves := fun n k => Leaves n (old k) (map k)
    let dropOf := fun k => (map k).drop
    ∃ t, exec .outcomeWrite s = .next t
      ∧ t.scanner.visit = s.scanner.visit ∧ t.scanner.take = s.scanner.take.map (fun x => { x with stale := true })
      ∧ (∀ n, n < 16 →
          let l := s.line n
          let kept : Line := { l with
            cfg := cfg n
            drops := Table.build 4 (fun d => dropAfterReload (cfg n) (starts n) (stays n) (onDrop old n d) (onDrop map n d)
              (l.drops.at0 none d))
            pollPtr := if (cfg n).mode = .direct then none else if starts n = true then some 3 else l.pollPtr }
          let stopped : Line := { kept with
            tx := .idle, rowPos := 0, hold := none, shift := orphaned l.shift, queue := [], rx := .looking, buffer := none
            answerFrames := 0, answerKeys := 0 }
          let left : Line := { kept with
            queue := l.queue.filter (fun q => !leaves n q.terminal)
            buffer := l.buffer.filter (fun q => !leaves n q.terminal) }
          let givenUp : Line := { left with hold := none, shift := orphaned l.shift, rowPos := 0 }
          let rowLost := l.tx = .row ∧ ∃ q rest, l.queue = q :: rest ∧ leaves n q.terminal = true
          let pollLost := (l.tx = .poll ∨ l.tx = .wait ∨ l.tx = .answer)
            ∧ ∃ d k, l.pollPtr = some d ∧ onDrop old n d = some k ∧ leaves n k = true
          let frames := if (cfg n).mode = .direct then 82 else 83
          (was n = false → is n = false → t.line n = kept)
          ∧ (stops n = true → is n = false → t.line n = stopped)
          ∧ (stops n = true → is n = true → RowOver dropOf stopped (t.line n))
          ∧ (was n = false → is n = true →
              RowOver dropOf { kept with tx := .idle, rowPos := 0, hold := none } (t.line n))
          ∧ (stays n = true → rowLost → RowOver dropOf givenUp (t.line n))
          ∧ (stays n = true → pollLost → PollOver dropOf givenUp (t.line n))
          ∧ (stays n = true → l.tx = .idle → l.hold = none → RowOver dropOf left (t.line n))
          ∧ (stays n = true → ¬rowLost → ¬pollLost → l.tx ≠ .idle → (l.hold = none ∨ l.shift ≠ none) →
              (l.tx = .row → l.hold ≠ none ∨ frames ≤ l.rowPos) → t.line n = left))
      ∧ ∀ k, 1 ≤ k → k ≤ 64 → (map k).enabled = true →
          let n := (map k).line
          let joins := ¬((old k).enabled = true ∧ (old k).line = n ∧ (old k).drop = (map k).drop)
          let repaint := starts n = true ∨ (stays n = true ∧ joins)
            ∨ ((old k).enabled = true ∧ (old k).screen ≠ (map k).screen)
          let dirtyAfter := fun r => repaint ∨ (s.term k).dirty.at0 false r = true
            ∨ ∃ m q, m < 16 ∧ q ∈ (s.line m).queue ∧ q.terminal = k ∧ q.row = r
                ∧ (stops m = true ∨ (stays m = true ∧ leaves m k = true))
          (∀ r, r < 23 → ((t.term k).dirty.at0 false r = true ↔ dirtyAfter r))
          ∧ (dirtyAfter 23 → (t.term k).dirty.at0 false 23 = true)
          ∧ (t.term k).lastTaken = if (old k).enabled = true then (s.term k).lastTaken else none

/-- R162, R163, R164, R170, R175, R176, R178: the served writes of the request consumer index word, of the oldest unwritten
notice, of the notice producer word and of the first writable image: the bytes stored are the record as it stands, field by
field as R175, R176 and R178 lay it out, no other byte changes, and the flag, index or mark that asked for the write is
settled; a notice record served also drives ATTN. A write is granted and served in one step (log entry 6). -/
def Obligations.ThePartWritesItsRecords : Prop :=
  ∀ s : State,
    (s.grant = some .consumerWord →
      ∃ t, exec .requestConsumerWrite s = .next t
        ∧ t.mem = s.mem.writeBytes (s.base + 0x114) [BitVec.ofNat 8 s.engine.consumer, 0#8, 0#8, 0#8]
        ∧ t.engine = { s.engine with wordFlag := false, progress := none } ∧ Only [.path, .mem, .engine] s t)
    ∧ (∀ q qs, s.grant = some .noticeRecord → s.notices.unwritten = q :: qs →
      ∃ t, exec .noticeRecordWrite s = .next t
        ∧ Holds t.mem (s.base + 0x600 + 16 * s.notices.published) (noticeFields q)
        ∧ (∀ x, x < s.base + 0x600 + 16 * s.notices.published ∨ s.base + 0x610 + 16 * s.notices.published ≤ x →
            t.mem.read x = s.mem.read x)
        ∧ t.notices = { s.notices with
            published := (s.notices.published + 1) % 64, unwritten := qs, wordFlag := true }
        ∧ t.pins = { s.pins with attn :=
            s.part == .passThrough || decide ((s.notices.published + 1) % 64 ≠ s.notices.consumer) }
        ∧ Only [.path, .mem, .notices, .pins] s t)
    ∧ (s.grant = some .producerWord →
      ∃ t, exec .noticeProducerWrite s = .next t
        ∧ t.mem = s.mem.writeBytes (s.base + 0x118)
            [BitVec.ofNat 8 s.notices.published, if s.notices.overflow then 1#8 else 0#8, 0#8, 0#8]
        ∧ t.notices = { s.notices with wordFlag := false } ∧ Only [.path, .mem, .notices] s t)
    ∧ (∀ i, s.grant = some (.image i) →
      let a := s.base + (imageLayout s i).1
      let size := (imageLayout s i).2.1
      ∃ t, exec .imageWrite s = .next t
        ∧ Holds t.mem a (imageLayout s i).2.2 ∧ (∀ x, x < a ∨ a + size ≤ x → t.mem.read x = s.mem.read x)
        ∧ t.marks = s.marks.erase i ∧ Frame [.path, .mem, .marks] s t)

/-! ## The typesetter link -/

/-- R76, R110, R117: SEND_START: with the link IDLE, the part RUNNING, a divisor, LFAULT deasserted, no wait for LREADY
and no RELOAD in progress, the head page of the send queue becomes SENDING with its QUEUED stories, and the send context
records its identity, placements, start point, resume flag and drain tag; under any other condition nothing happens. The
send start is a step of its own (log entry 12). -/
def Obligations.SendStartTakesTheHeadPage : Prop :=
  ∀ (s : State) (p : Nat) (q : List Nat), s.sendQueue = p :: q → p ≤ 95 → s.link.hold = none → s.link.shift = none →
    let g := s.page p
    let may := s.link.state = .idle ∧ s.part = .running ∧ s.link.divisor ≠ 0 ∧ s.pins.lfault = false
      ∧ s.link.waitReady = false ∧ s.reloadInProgress = false
    ∃ t, exec .sendStart s = .next t
      ∧ (¬may → t = s)
      ∧ (may →
          t.sendQueue = q ∧ t.page p = { g with state := .sending } ∧ (∀ k, k ≠ p → t.page k = s.page k)
          ∧ (∀ n, t.story n = if n ∈ g.placements.map (fun x => x.story) ∧ (s.story n).state = .queued then
              { s.story n with state := .sending } else s.story n)
          ∧ t.link.state = .sending ∧ t.link.timer = 0
          ∧ (∃ c, t.link.ctx = some c ∧ c.page = p ∧ c.printed = g.printed ∧ c.edition = g.edition
              ∧ c.sectionCode = g.sectionCode ∧ c.placements = g.placements ∧ c.startPos = g.resumePos
              ∧ c.startOff = g.resumeOff ∧ c.resumeFlag = decide ((g.resumePos, g.resumeOff) ≠ (0, 0))
              ∧ c.tag = s.path.queue.getLast?.map (fun e => e.seq))
          ∧ (s.pins.lready = true → t.link.shift = some ⟨true, 0x01#8, .pageStart⟩)
          ∧ (s.pins.lready = false → t.link.shift = none ∧ t.link.hold = some ⟨true, 0x01#8, .pageStart⟩)
          ∧ MarkItem.partState ∈ t.marks ∧ Only [.stories, .pages, .sendQueue, .link] s t)

/-- R115, R118 to R121: what a send produces. The frames come in the order PAGE_START with its five arguments, then for each
placement from the start point STORY_START, FONT, SIZE, LEAD and MEASURE with their arguments and the story's text, STORY_END,
and PAGE_END after the last. A text byte at or above 0x20 and 0x1C make a text frame, 0x1E the command PARA, and other codes
below 0x20 none. On LTXD a frame is a start bit, the data bits least significant first, the mark bit and a stop bit; without
one the output is marking. -/
def Obligations.TheStreamOfASend : Prop :=
  ∀ (s : State) (c : SendCtx),
    (∀ k, k < 6 → c.pos = .pageStart k →
      (s.nextFrame c).1 = some ⟨true, ([0x01, c.printed / 256, c.printed, c.edition, c.sectionCode,
        if c.resumeFlag then 1 else 0].map (BitVec.ofNat 8)).getD k 0#8, .pageStart⟩
      ∧ (s.nextFrame c).2.pos = if k < 5 then .pageStart (k + 1)
          else if c.startPos < c.placements.length then .setup c.startPos 0 else .pageEnd)
    ∧ (∀ i q, c.pos = .setup i 0 → c.placements[i]? = some q →
        let r := s.story q.story
        (s.nextFrame c).1 = some ⟨true, 0x02#8, .setup i⟩
        ∧ (s.nextFrame c).2.setup = [0x02, q.story / 256, q.story, 0x03, r.font, 0x04, r.size, 0x05, r.leading / 256,
            r.leading, 0x06, r.measure / 256, r.measure].map (BitVec.ofNat 8)
        ∧ (s.nextFrame c).2.pos = .setup i 1)
    ∧ (∀ i k, k < 13 → 0 < k → c.pos = .setup i k →
        (s.nextFrame c).1 = some ⟨true, c.setup.getD k 0#8, .setup i⟩
        ∧ (s.nextFrame c).2.pos = if k < 12 then .setup i (k + 1)
            else .text i (if i = c.startPos then c.startOff else 0))
    ∧ (∀ i x b bs, c.pos = .text i x → c.piece = b :: bs → (b = 0x1C#8 ∨ b = 0x1E#8 ∨ 0x20 ≤ b.toNat) →
        (s.nextFrame c).1 = some (if b = 0x1E#8 then ⟨true, 0x07#8, .text i x⟩ else ⟨false, b, .text i x⟩)
        ∧ (s.nextFrame c).2.pos = .text i (x + 1) ∧ (s.nextFrame c).2.piece = bs)
    ∧ (∀ i x b bs, c.pos = .text i x → c.piece = b :: bs → ¬(b = 0x1C#8 ∨ b = 0x1E#8 ∨ 0x20 ≤ b.toNat) →
        s.nextFrame c = s.nextFrame { c with pos := .text i (x + 1), piece := bs })
    ∧ (∀ i x q, c.pos = .text i x → c.piece = [] → c.placements[i]? = some q →
        (x < 256 * (s.story q.story).capacity → (s.nextFrame c).1 = none ∧ (s.nextFrame c).2.pos = .text i x)
        ∧ (256 * (s.story q.story).capacity ≤ x →
            (s.nextFrame c).1 = some ⟨true, 0x08#8, .storyEnd i⟩
            ∧ (s.nextFrame c).2.pos = if i + 1 < c.placements.length then .setup (i + 1) 0 else .pageEnd))
    ∧ (c.pos = .pageEnd → (s.nextFrame c).1 = some ⟨true, 0x09#8, .pageEnd⟩ ∧ (s.nextFrame c).2.pos = .finished)
    ∧ (∀ f, s.link.shift = some f →
        s.link.ltxd = [false] ++ (List.range 8).map (fun i => f.data.getLsbD i) ++ [f.mark, true])
    ∧ (s.link.shift = none → s.link.ltxd = [true])

/-- R110, R116, R120, R121: a link text read, which is asked for only when the drain tag is absent or met, reads the 16-byte
piece of the story's block that holds the scan offset, passes over its bytes below that offset, and changes nothing but the
link. The next frame of the stream, if the piece gives one, is held; with LREADY asserted and the shift register empty it is
being sent, and the frame after it is held. A piece is granted and read in one step (log entry 6). -/
def Obligations.LinkTextIsReadInPieces : Prop :=
  ∀ (s : State) (c : SendCtx) (i x : Nat) (q : Placed), s.grant = some .linkText → s.link.ctx = some c →
    c.pos = .text i x → c.placements[i]? = some q →
    let piece := (s.mem.readBytes ((s.story q.story).base + 16 * (x / 16)) 16).drop (x % 16)
    let first := s.nextFrame { c with piece := piece }
    let second := s.nextFrame first.2
    c.tag = none ∧ c.piece = []
    ∧ ∃ t, exec .linkTextRead s = .next t ∧ s.link.state = .sending ∧ s.link.hold = none ∧ Frame [.path, .link] s t
      ∧ (∀ f, first.1 = some f → s.link.shift = none → s.pins.lready = true →
          t.link = { s.link with shift := some f, hold := second.1, ctx := some second.2 })
      ∧ ((first.1 = none ∨ s.link.shift ≠ none ∨ s.pins.lready = false) →
          t.link = { s.link with hold := first.1, ctx := some first.2 })

/-- R77, R116, R121, R122, R129: a shift completion empties the shift register; during a send the frame held moves when LREADY is
asserted, the emptied holding buffer takes the next frame of the stream, and the context goes on with it. That of a STORY_END
makes the story SET and advances the page's resume point; that of PAGE_END makes the page SENT and the link IDLE and hands
over the SENT notice. In HALTED it changes no page or story. -/
def Obligations.ShiftCompletionsCompleteTheSend : Prop :=
  ∀ (s : State) (f : LinkFrame), s.link.shift = some f →
    ∃ t, exec .linkShiftCompletion s = .next t
      ∧ (s.link.state ≠ .sending → t = { s with link := { s.link with shift := none } })
      ∧ (s.link.state = .sending → ∀ c, s.link.ctx = some c → c.page ≤ 95 →
          Only [.link, .stories, .pages, .notices] s t
          ∧ (∀ k, k ≠ c.page → t.page k = s.page k)
          ∧ (f.origin ≠ .pageEnd → LinkGoesOn s c s.pins.lready { s.link with shift := none } t.link)
          ∧ ((∀ i, f.origin ≠ .storyEnd i) → f.origin ≠ .pageEnd → t.pages = s.pages ∧ t.stories = s.stories
              ∧ t.notices = s.notices)
          ∧ (∀ i q, f.origin = .storyEnd i → c.placements[i]? = some q → validStory q.story = true →
              t.page c.page = { s.page c.page with resumePos := i + 1, resumeOff := 0 }
              ∧ t.story q.story = { s.story q.story with state := .set }
              ∧ (∀ m, m ≠ q.story → t.story m = s.story m) ∧ t.notices = s.notices)
          ∧ (f.origin = .pageEnd →
              t.page c.page = { s.page c.page with state := .sent, resumePos := 0, resumeOff := 0 }
              ∧ t.stories = s.stories
              ∧ t.link = { s.link with state := .idle, shift := none, timer := 0, ctx := none }
              ∧ t.notices = (s.notify { s.notice .sent .noCause with page := some c.page }).notices))

/-- R116, R117, R121, R123, R126: the ready and fault inputs. LREADY asserted clears the wait-ready condition and the timer of
a link that is not HALTED; during a send it lets a waiting frame move, the emptied holding buffer takes the next frame of the
stream, and the context goes on with it; it changes nothing else of the link. LREADY deasserted and LFAULT deasserted change
the level alone; LFAULT asserted outside a send changes the level alone, and a level already asserted is no assertion. That
LFAULT deasserted and LREADY asserted take no page in the same step, though R117's conditions may come to hold by them, is the
model's choice: the send start is a step of its own (log entry 12). -/
def Obligations.LinkInputs : Prop :=
  ∀ s : State,
    exec .lreadyDeassert s = .next { s with pins := { s.pins with lready := false } }
    ∧ exec .lfaultDeassert s = .next { s with pins := { s.pins with lfault := false } }
    ∧ (s.link.state ≠ .sending → exec .lfaultAssert s = .next { s with pins := { s.pins with lfault := true } })
    ∧ (s.pins.lfault = true → exec .lfaultAssert s = .next s)
    ∧ (s.pins.lready = true → exec .lreadyAssert s = .next s)
    ∧ (s.pins.lready = false →
        ∃ t, exec .lreadyAssert s = .next t ∧ t.pins = { s.pins with lready := true } ∧ Only [.pins, .link] s t
          ∧ t.link.waitReady = false ∧ t.link.state = s.link.state
          ∧ (s.link.state ≠ .sending → t.link = { s.link with
              waitReady := false, timer := if s.link.state = .halted then s.link.timer else 0 })
          ∧ (s.link.state = .sending → ∀ c, s.link.ctx = some c →
              LinkGoesOn s c true { s.link with waitReady := false, timer := 0 } t.link)
          ∧ (s.link.state = .sending → s.link.shift = none → ∀ f, s.link.hold = some f → t.link.shift = some f)
          ∧ (∀ f, s.link.shift = some f → t.link.shift = some f))

/-- R78, R123 to R127: an assertion of LFAULT during a send, and the link timer that has reached a nonzero T, fault the
page: both frames are discarded, the page becomes FAULTED at the point of the oldest unfinished frame (the one in the shift
register, or else the held one, or else the next the stream would produce), its SENDING stories
become QUEUED again and SET ones stay, the FAULT notice names page, story and cause, and the link is IDLE; a TIMEOUT also
sets the wait-ready condition. The timeout is a step of its own (log entry 11). -/
def Obligations.FaultsStopTheSend : Prop :=
  ∀ (s : State) (c : SendCtx), s.link.state = .sending → s.link.ctx = some c → c.page ≤ 95 →
    let pt := resumePoint s c
    let faulted := fun (cause : Cause) (t : State) =>
      t.page c.page = { s.page c.page with state := .faulted, resumePos := pt.1, resumeOff := pt.2 }
      ∧ (∀ k, k ≠ c.page → t.page k = s.page k)
      ∧ (∀ n, t.story n = if n ∈ c.placements.map (fun x => x.story) ∧ (s.story n).state = .sending then
          { s.story n with state := .queued } else s.story n)
      ∧ t.notices = (s.notify { s.notice .fault cause with
          page := some c.page, story := (c.placements.map (·.story)).getD pt.1 0 }).notices
      ∧ t.link = { s.link with
          state := .idle, hold := none, shift := none, timer := 0, ctx := none
          waitReady := s.link.waitReady || cause == .timeout }
    (s.pins.lfault = false → ∃ t, exec .lfaultAssert s = .next t ∧ faulted .fault t
      ∧ t.pins = { s.pins with lfault := true } ∧ Only [.pins, .link, .stories, .pages, .notices] s t)
    ∧ (s.link.hold ≠ none → s.pins.lready = false → s.link.timeout ≠ 0 → s.link.timeout ≤ s.link.timer →
        ∃ t, exec .linkTimeout s = .next t ∧ faulted .timeout t ∧ Only [.link, .stories, .pages, .notices] s t)
    ∧ ((s.link.hold = none ∨ s.pins.lready = true ∨ s.link.timeout = 0 ∨ s.link.timer < s.link.timeout) →
        exec .linkTimeout s = .next s)

/-! ## Terminal lines -/

/-- R143: LINECLEAR: its checks in order; the three flags become clear, in a line of any state, and the note shows which were
set. -/
def Obligations.LineclearClearsTheFlags : Prop :=
  ∀ s : State, Asked 20 s →
    let n := s.request.u8 8
    let l := s.line n
    let o : ReqOutcome :=
      if s.isReporter s.request.requester = true ∨ s.isEditor s.request.requester = true then .rank
      else if 15 < n then .badArg
      else .done
    let was := (if l.error then 1 else 0) + (if l.overrun then 2 else 0) + (if l.brk then 4 else 0)
    ∃ t, exec .lineclear s = .next t ∧ Answered o (if o = .done then was else 0) s t ∧ Only [.path, .engine, .lines] s t
      ∧ (o ≠ .done → t.lines = s.lines) ∧ (∀ m, m ≠ n → t.line m = s.line m)
      ∧ (o = .done → t.line n = { l with error := false, overrun := false, brk := false } ∧ MarkItem.line n ∈ t.marks)

/-- R131, R132, R133, R135, R136: the shift completion of a frame empties the shift register; on an active line the frame held
is sent next and the row goes on frame by frame, the row's last frame takes the row out of the queue and leads to the next
row, to IDLE or to the poll step, and a POLL frame opens the answer window. A frame that was left to be shifted out when its
row or poll was given up completes nothing: it lets the frame held begin, and an IDLE line then looks for a row or a poll. The
end of a vacant poll leads to a row or the poll step. On TXD each frame is a start bit, the data bits least significant first,
the mark bit on a SHARED line, the parity bit unless parity is NONE, and one or two stop bits; without a frame the output is
marking. -/
def Obligations.RowsAndPollsGoOnTheWire : Prop :=
  ∀ (s : State) (n : Fin 16),
    let l := s.line n.val
    let dropOf := fun (k : Nat) => (s.term k).cfg.drop
    (∀ f, l.shift = some f → l.txd = f.bits ∧
      ∃ t, exec (.lineShiftCompletion n) s = .next t ∧ Only [.lines] s t ∧ (∀ m, m ≠ n.val → t.line m = s.line m)
        ∧ (s.lineActive n.val = false → t.line n.val = { l with shift := none })
        ∧ (s.lineActive n.val = true →
            (∀ q rest h, (f.kind = .row false ∨ f.kind = .orphan) → l.tx = .row → l.queue = q :: rest → l.hold = some h →
              let k := l.rowPos
              let count := if l.cfg.mode = .direct then 82 else 83
              t.line n.val = if k < count then
                  { l with shift := some h, hold := some (wireFrame l.cfg (dropOf q.terminal) q k), rowPos := k + 1 }
                else { l with shift := some h, hold := none })
            ∧ (f.kind = .row true → l.hold = none → l.tx = .row →
                let l1 : Line := { l with shift := none, queue := l.queue.tail }
                (l.cfg.mode = .direct → (l1.queue = [] → t.line n.val = { l1 with tx := .idle })
                  ∧ (l1.queue ≠ [] → RowBegun dropOf l1 (t.line n.val)))
                ∧ (l.cfg.mode = .shared → PollStepped l1 (t.line n.val)))
            ∧ (f.kind = .poll → l.hold = none →
                t.line n.val = { l with shift := none, tx := .wait, answerFrames := 0, answerKeys := 0 })
            ∧ (f.kind = .orphan → l.tx ≠ .row →
                (∀ h, l.hold = some h → l.tx ≠ .idle → t.line n.val = { l with shift := some h, hold := none })
                ∧ (l.hold = none → l.tx ≠ .idle → t.line n.val = { l with shift := none })
                ∧ (l.hold = none → l.tx = .idle → RowOver dropOf { l with shift := none } (t.line n.val)))))
    ∧ (s.lineActive n.val = true → l.tx = .vacant → l.hold = none → l.shift = none → l.cfg.mode = .shared →
        ∃ t, exec (.vacantPollEnd n) s = .next t ∧ Only [.lines] s t ∧ (∀ m, m ≠ n.val → t.line m = s.line m)
          ∧ PollOver dropOf l (t.line n.val))
    ∧ (l.shift = none → l.txd = [true])

/-- R137, R138, R140, R151: what ends a real poll. The window's close with no start bit is a miss; an END frame, a gap, the 17th
key and a break after a completed frame end it as answered, a break before one as missed. A gap and the 17th key set ERROR
with cause ANSWER, a break sets BREAK, and the LINE notice goes before the DROP notice. In the same event the drop record
changes by R138, the terminal of a drop that comes UP is repainted and no other dirty set or last-taken text changes (none of the
inputs that R151 names for a status row does), and the transmitter goes on. A break's own frame is none of the
completed ones (log entry 17). -/
def Obligations.PollsEnd : Prop :=
  ∀ (s : State) (n : Fin 16) (d : Nat) (r : Drop),
    let l := s.line n.val
    s.lineActive n.val = true → l.cfg.mode = .shared → l.hold = none → l.shift = none → l.pollPtr = some d →
    l.drops.at0 none d = some r → d < 4 →
    let k := s.terminalOn n.val d
    let dropOf := fun (j : Nat) => (s.term j).cfg.drop
    let ended := fun (l1 : Line) (r' : Drop) (s1 t : State) =>
      PollOver dropOf { l1 with drops := l.drops.set0 d (some r') } (t.line n.val) ∧ (∀ m, m ≠ n.val → t.line m = s.line m)
      ∧ t.notices = (s1.dropNoted n.val r r' k).notices
      ∧ (∀ j, (t.term j).cfg = (s.term j).cfg ∧ (t.term j).ring = (s.term j).ring)
      ∧ (∀ j, (t.term j).lastTaken = (s.term j).lastTaken)
      ∧ (∀ j, (t.term j).dirty =
          if r.state = .down ∧ r'.state = .up ∧ k = some j then Table.fill 24 true else (s.term j).dirty)
      ∧ Frame [.lines, .notices, .terms, .marks] s t
    (l.tx = .wait → ∃ t, exec (.answerWindowExpiry n) s = .next t ∧ ended l r.missed s t)
    ∧ (l.tx = .answer → l.rx = .looking → 0 < l.answerFrames →
        ∃ t, exec (.answerGapExpiry n) s = .next t
          ∧ ended { l with error := true } r.answered (s.lineNoted n.val l.error .answer k) t)
    ∧ (∀ f, l.tx = .answer → l.rx = .frame true → frameError l.cfg f = none → ¬AllSpacing l.cfg f →
        (f.mark = true → ∃ t, exec (.receiveFrame n f) s = .next t
          ∧ ended { l with rx := .looking, answerFrames := l.answerFrames + 1 } r.answered s t)
        ∧ (f.mark = false → 16 ≤ l.answerKeys → ∃ t, exec (.receiveFrame n f) s = .next t
          ∧ ended { l with
              rx := .looking, answerFrames := l.answerFrames + 1, answerKeys := l.answerKeys + 1, error := true }
              r.answered (s.lineNoted n.val l.error .answer k) t))
    ∧ (l.tx = .answer → (∃ sol, l.rx = .frame sol ∨ l.rx = .spacing sol) →
        ∃ t, exec (.breakDetect n) s = .next t
          ∧ ended { l with rx := .resync, brk := true } (if 0 < l.answerFrames then r.answered else r.missed)
              (s.lineNoted n.val l.brk .brk k) t)

/-- R131, R137, R140 to R142: a line that is not active takes nothing in. On an active one a start bit in the answer
window begins the answer; a completed frame that is all spacing waits, one in error sets ERROR with its cause, and a good
one is a key for the receive buffer, or sets ERROR as unsolicited; a full buffer loses it with OVERRUN. A break on a
DIRECT line is a BREAK record, the receiver resynchronises after it, and an all-spacing frame that ends is a framing
error. A frame that is all spacing waits whatever its parity, and of two errors parity is the one reported (log entry 9); a frame
whose start bit came in an earlier poll counts for the poll in progress, and one whose poll has ended is unsolicited (log entry
16): both are the model's inferences. That a LINE notice in POLL names no terminal is the model's choice (log entry 29). -/
def Obligations.FramesAreReceived : Prop :=
  ∀ (s : State) (n : Fin 16) (f : RxFrame),
    let l := s.line n.val
    let polled := l.tx = .wait ∨ l.tx = .answer
    let named := if l.cfg.mode = .direct then s.terminalOn n.val 0
      else if polled then l.pollPtr.bind (s.terminalOn n.val) else none
    let becomes := fun (c : Instr) (l' : Line) (notices : NoticeWriter) =>
      ∃ t, exec c s = .next t ∧ t.line n.val = l' ∧ (∀ m, m ≠ n.val → t.line m = s.line m) ∧ t.notices = notices
        ∧ Only [.lines, .notices] s t
    let delivers := fun (c : Instr) (l1 : Line) (kind : KeyKind) (code : Byte) =>
      (named = none → becomes c l1 s.notices)
      ∧ (∀ k, named = some k →
          (l.buffer = none → becomes c { l1 with buffer := some ⟨k, kind, code⟩ } s.notices)
          ∧ (l.buffer ≠ none → becomes c { l1 with overrun := true }
              (s.lineNoted n.val l.overrun .overrun named).notices))
    let errs := fun (c : Instr) (l1 : Line) (cause : Cause) =>
      becomes c { l1 with error := true } (s.lineNoted n.val l.error cause named).notices
    (s.lineActive n.val = false →
      exec (.startBitDetect n) s = .next s ∧ exec (.receiveFrame n f) s = .next s ∧ exec (.breakDetect n) s = .next s
      ∧ exec (.spacingFrameReturnToMarking n) s = .next s)
    ∧ (s.lineActive n.val = true →
        (l.rx = .looking →
          becomes (.startBitDetect n)
            { l with rx := .frame (decide polled), tx := if l.tx = .wait then .answer else l.tx } s.notices)
        ∧ (∀ sol, l.rx = .frame sol →
            let c := Instr.receiveFrame n f
            let next : Line := { l with rx := .looking }
            let counted : Line := { next with tx := .answer, answerFrames := l.answerFrames + 1 }
            let answers := l.cfg.mode = .shared ∧ sol = true ∧ polled
            (AllSpacing l.cfg f → becomes c { l with rx := .spacing sol } s.notices)
            ∧ (¬AllSpacing l.cfg f → ∀ e, frameError l.cfg f = some e → errs c (if answers then counted else next) e)
            ∧ (¬AllSpacing l.cfg f → frameError l.cfg f = none →
                (l.cfg.mode = .direct → delivers c next .key f.data)
                ∧ (l.cfg.mode = .shared → ¬answers → errs c next .unsolicited)
                ∧ (answers → f.mark = false → l.answerKeys < 16 →
                    delivers c { counted with answerKeys := l.answerKeys + 1 } .key f.data)))
        ∧ (∀ sol, l.rx = .spacing sol →
            errs (.spacingFrameReturnToMarking n)
              (if l.cfg.mode = .shared ∧ sol = true ∧ polled then
                { l with rx := .looking, tx := .answer, answerFrames := l.answerFrames + 1 }
              else { l with rx := .looking }) .framing
            ∧ (l.cfg.mode = .direct → delivers (.breakDetect n) { l with rx := .resync } .brk 0#8)
            ∧ (l.cfg.mode = .shared → ¬polled →
                becomes (.breakDetect n) { l with rx := .resync, brk := true }
                  (s.lineNoted n.val l.brk .brk none).notices)))
    ∧ (l.rx = .resync → becomes (.resyncEnd n) { l with rx := .looking } s.notices)

/-! ## Key rings -/

/-- R31, R111, R144, R145, R146: a key write frees the receive buffer. It is lost with a KEYLOSS notice where it would fall in
the text of a SENDING or SET story, and where the ring is full; otherwise record and header are written and the producer
advances, and the header write takes up one that was asked for. A header write asked for alone writes the three fields, or
nothing where it would fall in such a text. Stories whose blocks were written are put into recount. Two things are the
model's: a write is granted and served in one step (log entry 6), and a key write refused as GUARDED, or lost to a full ring
whose overrun mark is set, leaves a header write that was asked for still asked for (log entry 27). -/
def Obligations.KeysAreWrittenToTheRing : Prop :=
  ∀ (s : State) (n k : Nat) (g : Ring), (s.term k).ring = some g → 1 ≤ k → k ≤ 64 →
    let base := (s.term k).cfg.ring
    let slot := base + 4 + 2 * g.producer
    let shut := fun (m : Nat) => (s.story m).state = .sending ∨ (s.story m).state = .set
    let atHeader := s.storiesTouched base 4
    let atBoth := storyNumbers.filter (fun m => (s.story m).touches slot 2 || (s.story m).touches base 4)
    let header := fun (h : Ring) =>
      [BitVec.ofNat 8 h.producer, if h.overrun then 1#8 else 0#8, BitVec.ofNat 8 h.consumer, BitVec.ofNat 8 (h.consumer / 256)]
    let loss := fun (c : Cause) (story : Nat) =>
      (s.notify { s.notice .keyloss c with terminal := some k, story := story }).notices
    let stores := fun (t : State) (mem : Memory) (h : Ring) (touched : List Nat) =>
      t.mem = mem ∧ (t.term k).ring = some h
      ∧ (∀ m, t.story m = if m ∈ touched then (s.story m).intoRecount else s.story m)
    let keeps := fun (t : State) (h : Ring) => t.mem = s.mem ∧ (t.term k).ring = some h ∧ t.stories = s.stories
    let others := fun (t : State) => (∀ j, j ≠ k → (t.term j).ring = (s.term j).ring)
      ∧ (∀ j, (t.term j).cfg = (s.term j).cfg)
      ∧ Frame [.path, .mem, .lines, .terms, .notices, .stories, .copyfit, .marks] s t
    (∀ q, s.grant = some (.keyRecord n) → (s.line n).buffer = some q → q.terminal = k → n < 16 →
      let record := [if q.kind = .key then 1#8 else 2#8, q.code]
      ∃ t, exec .keyRingWrite s = .next t ∧ others t
        ∧ t.line n = { s.line n with buffer := none } ∧ (∀ m, m ≠ n → t.line m = s.line m)
        ∧ ((g.producer + 32 - g.consumer) % 32 = 31 → g.overrun = true → keeps t g ∧ t.notices = s.notices)
        ∧ ((g.producer + 32 - g.consumer) % 32 = 31 → g.overrun = false →
            (∀ m, atHeader.find? (fun m => decide (shut m)) = some m → keeps t g ∧ t.notices = loss .guarded m)
            ∧ (atHeader.find? (fun m => decide (shut m)) = none →
                let h : Ring := { g with overrun := true, headerAsked := false }
                stores t (s.mem.writeBytes base (header h)) h atHeader ∧ t.notices = loss .full 0))
        ∧ ((g.producer + 32 - g.consumer) % 32 ≠ 31 →
            (∀ m, atBoth.find? (fun m => decide (shut m)) = some m → keeps t g ∧ t.notices = loss .guarded m)
            ∧ (atBoth.find? (fun m => decide (shut m)) = none →
                let h : Ring := { g with producer := (g.producer + 1) % 32, headerAsked := false }
                stores t ((s.mem.writeBytes slot record).writeBytes base (header h)) h atBoth
                ∧ t.notices = s.notices)))
    ∧ (s.grant = some (.keyHeader n k) →
        let h : Ring := { g with headerAsked := false }
        ∃ t, exec .keyRingHeaderWrite s = .next t ∧ others t ∧ t.lines = s.lines ∧ t.notices = s.notices
          ∧ ((∃ m, m ∈ atHeader ∧ shut m) → keeps t h)
          ∧ ((∀ m, m ∈ atHeader → ¬shut m) → stores t (s.mem.writeBytes base (header h)) h atHeader))

/-! ## The screen scanner -/

/-- R41, R151, R157, R158: the status row of a terminal is its four fields: the edition with the nearest end, its state and the
minutes left; the home basket with its count and urgent count; the story held with its fit word and line difference; the flags
R, K, T and W. Every command but a reset that changes an input of the row leaves row 23 dirty unless the text composed is the
last-taken text; a SETTIME does so whether or not it changes the time. That a step leaves row 23 as it was otherwise is part of
each statement that says `Only`. The row is composed at the end of each step (log entry 15). -/
def Obligations.TheStatusRowShowsItsInputs : Prop :=
  (∀ (s : State) (k : Nat), 1 ≤ k → k ≤ 64 →
      ∃ f1 f2 f3 f4, s.statusRow k = f1 ++ f2 ++ f3 ++ f4
        ∧ EditionFieldIs s f1 ∧ BasketFieldIs s (s.term k).cfg.basket f2
        ∧ ((∀ n, 1 ≤ n → n ≤ 511 → (s.story n).holder ≠ k) →
            s.heldBy k = 0 ∧ f3 = chars "                            " ∧ FlagsFieldIs s k 0 f4)
        ∧ ∀ n, 1 ≤ n → n ≤ 511 → (s.story n).holder = k → (∀ m, 1 ≤ m → m < n → (s.story m).holder ≠ k) →
            s.heldBy k = n ∧ StoryFieldIs s n f3 ∧ FlagsFieldIs s k n f4)
  ∧ ∀ (c : Instr) (s t : State) (k : Nat), c ≠ .pwrrst → c ≠ .busrst → exec c s = .next t → 1 ≤ k → k ≤ 64 →
      t.part = .running → s.enabled k = true → t.enabled k = true →
      (InputsDiffer s t k ∨ (c = .settime ∧ Asked 10 s ∧ s.request.requester = 0)) →
      (t.term k).lastTaken = some (t.statusRow k) ∨ (t.term k).dirty.at0 false 23 = true

/-- R134, R135, R153, R154, R156: the free scanner visits the first eligible terminal at or after the scan position and fixes
its slice. A dirty status row is taken at once: it is composed, and its record joins the row queue of the line, which begins
to send it if it is IDLE and otherwise goes on as it was; then, or if it was not dirty, the lowest dirty row is asked for, or
the visit ends. With no eligible terminal nothing happens. The visit is a step of its own (log entry 12), and the status row
is taken in it (log entry 14). -/
def Obligations.TheScannerVisits : Prop :=
  ∀ s : State, s.part = .running → s.scanner.visit = none → 1 ≤ s.scanner.slice1 → 1 ≤ s.scanner.slice2 →
    let inTurn := fun (i : Nat) => (s.scanner.pos - 1 + i) % 64 + 1
    ((∀ i, i < 64 → ¬Visitable s (inTurn i)) → exec .scanVisit s = .next s)
    ∧ (∀ i, i < 64 → Visitable s (inTurn i) → (∀ j, j < i → ¬Visitable s (inTurn j)) →
        let k := inTurn i
        let n := (s.term k).cfg.line
        let dirty := fun r => (s.term k).dirty.at0 false r
        let dropOf := fun (j : Nat) => (s.term j).cfg.drop
        ∃ t, exec .scanVisit s = .next t
          ∧ (dirty 23 = false →
              RowAsked s ⟨k, sliceOf s k, 0⟩ dirty s.scanner t.scanner ∧ Frame [.scanner] s t)
          ∧ (dirty 23 = true → n < 16 →
              let v : Visit := ⟨k, sliceOf s k, 1⟩
              let dirty' := fun r => if r = 23 then false else dirty r
              (∀ r, r < 24 → (t.term k).dirty.at0 false r = dirty' r)
              ∧ (t.term k).lastTaken = some (s.statusRow k) ∧ (t.term k).cfg = (s.term k).cfg
              ∧ (t.term k).ring = (s.term k).ring ∧ (∀ j, j ≠ k → t.term j = s.term j)
              ∧ (t.line n).queue = (s.line n).queue ++ [⟨k, 23, s.statusRow k⟩]
              ∧ RecordsJoin dropOf (s.line n) [⟨k, 23, s.statusRow k⟩] (t.line n) ∧ (∀ m, m ≠ n → t.line m = s.line m)
              ∧ (VisitOver v dirty' ((s.line n).queue.length + 1) →
                  t.scanner = { s.scanner with pos := k % 64 + 1, visit := none, take := none })
              ∧ (¬VisitOver v dirty' ((s.line n).queue.length + 1) → RowAsked s v dirty' s.scanner t.scanner)
              ∧ Frame [.terms, .lines, .scanner, .marks] s t))

/-- R134, R135, R154 to R156: the end of a row read is the take: the 80 bytes as memory stands are the snapshot of the record
that joins the row queue, of which an IDLE line begins to send the oldest while another line goes on as it was, and the row
leaves the dirty set; the visit then goes on, taking a dirty status row at once, or ends. A take is abandoned, and the visit
ends, when the terminal, its line or its drop is out of use or a RELOAD has come between. The read is granted and served in
one step (log entry 6), which takes a dirty status row too (log entry 14); a stale take ends the visit (log entry 19). -/
def Obligations.RowReadsAreTakes : Prop :=
  ∀ (s : State) (a : Take) (v : Visit), s.grant = some .rowRead → s.scanner.take = some a → s.scanner.visit = some v →
    a.terminal = v.terminal → 1 ≤ v.terminal → v.terminal ≤ 64 → a.row < 23 →
    let k := v.terminal
    let n := (s.term k).cfg.line
    let l := s.line n
    let usable := (s.term k).cfg.enabled = true ∧ s.lineActive n = true
      ∧ (l.cfg.mode = .shared → ∃ r, l.drops.at0 none (s.term k).cfg.drop = some r ∧ r.state = .up) ∧ a.stale = false
    let ended : Scanner := { s.scanner with pos := k % 64 + 1, visit := none, take := none }
    let dropOf := fun (j : Nat) => (s.term j).cfg.drop
    ∃ t, exec .rowTake s = .next t
      ∧ (¬usable → t = { s with path := { s.path with turn := .drain }, scanner := ended })
      ∧ (usable → n < 16 →
          let dirty := fun r => if r = a.row then false else (s.term k).dirty.at0 false r
          let text := s.mem.readBytes a.addr 80
          let ends := VisitOver { v with taken := v.taken + 1 } dirty (l.queue.length + 1)
          let goesOn := fun (v' : Visit) (d : Nat → Bool) (more : List RowRec) =>
            (t.line n).queue = l.queue ++ ⟨k, a.row, text⟩ :: more
            ∧ RecordsJoin dropOf l (⟨k, a.row, text⟩ :: more) (t.line n)
            ∧ (∀ r, r < 24 → (t.term k).dirty.at0 false r = d r)
            ∧ (VisitOver v' d (l.queue.length + 1 + more.length) → t.scanner = ended)
            ∧ (¬VisitOver v' d (l.queue.length + 1 + more.length) → RowAsked s v' d s.scanner t.scanner)
          ((ends ∨ dirty 23 = false) →
              goesOn { v with taken := v.taken + 1 } dirty [] ∧ (t.term k).lastTaken = (s.term k).lastTaken)
          ∧ (¬ends → dirty 23 = true →
              goesOn { v with taken := v.taken + 2 } (fun r => if r = 23 then false else dirty r)
                [⟨k, 23, s.statusRow k⟩]
              ∧ (t.term k).lastTaken = some (s.statusRow k))
          ∧ (∀ j, j ≠ k → t.term j = s.term j) ∧ (∀ m, m ≠ n → t.line m = s.line m)
          ∧ (t.term k).cfg = (s.term k).cfg ∧ (t.term k).ring = (s.term k).ring
          ∧ Frame [.path, .terms, .lines, .scanner, .marks] s t)

/-! ## Invariants of every step -/

/-- Every step keeps the canonical form of memory, ATTN as R164 drives it, and the ranges of R47, R90, R126, R161 and
R163. -/
def Obligations.EveryStepKeepsMemoryAttnAndRanges : Prop :=
  ∀ s t : State, step s = .next t →
    (MemoryRight s → MemoryRight t) ∧ (AttnRight s → AttnRight t) ∧ (RangesRight s → RangesRight t)

/-- R65: every step keeps the pages' lists and the stories' placements naming each other, and FREE and KILLED stories off the
pages. -/
def Obligations.EveryStepKeepsPlacementsRight : Prop :=
  ∀ s t : State, PlacementsRight s → step s = .next t → PlacementsRight t

/-- R165: the part state moves only as the table of R165 says: to NOT CONFIGURED by a reset alone, to RUNNING by the outcome
write of a successful RELOAD, to PASS-THROUGH by a validation, and out of PASS-THROUGH by a reset alone. -/
def Obligations.PassThroughIsLeftOnlyByReset : Prop :=
  ∀ s t : State, PassRight s → step s = .next t → PassRight t
    ∧ (t.part ≠ s.part →
      (∃ rest, s.pending = .pwrrst :: rest ∨ s.pending = .busrst :: rest) ∧ t.part = .notConfigured
      ∨ s.part ≠ .passThrough ∧ ((∃ rest, s.pending = .outcomeWrite :: rest) ∧ t.part = .running ∧ t.cause = .reload
        ∨ (∃ rest, s.pending = .reloadPieceRead :: rest) ∧ t.part = .passThrough ∧ t.cause = .badBase))

/-- The state after reset meets the invariants. -/
def Obligations.ResetMeetsTheInvariants : Prop :=
  MemoryRight State.reset ∧ AttnRight State.reset ∧ RangesRight State.reset ∧ PlacementsRight State.reset
    ∧ PassRight State.reset
end

