-- ==== Sys2Proof/Laws/Frame.lean ====
section
/-! SUPPORT. Frames and growing mark lists: how they compose, and those of an update of one field. -/

namespace Sys2Proof.Machine

theorem Frame.refl (l : List Region) (s : State) : Frame l s s := by
  intro r _
  cases r <;> rfl

theorem Region.same_trans {s t u : State} {r : Region} (h1 : r.same s t) (h2 : r.same t u) : r.same s u := by
  cases r <;> exact Eq.trans h2 h1

theorem Frame.weaken {l1 l : List Region} {s t : State} (h : Frame l1 s t)
    (e : l1.all (fun r => l.contains r) = true := by decide) : Frame l s t := by
  intro r hr
  apply h r
  intro hm
  have := List.all_eq_true.mp e r hm
  exact hr (by simpa using this)

theorem Frame.trans {l : List Region} {s t u : State} (h1 : Frame l s t) (h2 : Frame l t u) : Frame l s u :=
  fun r hr => Region.same_trans (h1 r hr) (h2 r hr)

theorem MarksGrow.of_eq {s t : State} (h : t.marks = s.marks) : MarksGrow s t := ⟨[], by simp [h]⟩

theorem MarksGrow.trans {s t u : State} (h1 : MarksGrow s t) (h2 : MarksGrow t u) : MarksGrow s u := by
  obtain ⟨a, ha⟩ := h1
  obtain ⟨b, hb⟩ := h2
  exact ⟨a ++ b, by simp [hb, ha]⟩

theorem MarksGrow.mem {s t : State} {i : MarkItem} (h : MarksGrow s t) (hi : i ∈ s.marks) : i ∈ t.marks := by
  obtain ⟨l, hl⟩ := h
  rw [hl]
  exact List.mem_append_left _ hi

/-- From `s` to `t` only the regions of `l` change, and the mark list only grows. -/
def Touches (l : List Region) (s t : State) : Prop := Frame l s t ∧ MarksGrow s t

theorem Touches.refl (l : List Region) (s : State) : Touches l s s := ⟨Frame.refl l s, .of_eq rfl⟩

theorem Touches.weaken {l1 l : List Region} {s t : State} (h : Touches l1 s t)
    (e : l1.all (fun r => l.contains r) = true := by decide) : Touches l s t := ⟨h.1.weaken e, h.2⟩

theorem Touches.trans {l : List Region} {s t u : State} (h1 : Touches l s t) (h2 : Touches l t u) : Touches l s u :=
  ⟨h1.1.trans h2.1, h1.2.trans h2.2⟩

/-- Go on from `t`, which differs from `s` only in regions of `l1`, all of them among `l`. -/
theorem Touches.via {l1 l : List Region} {s t u : State} (h1 : Touches l1 s t) (h2 : Touches l t u)
    (e : l1.all (fun r => l.contains r) = true := by decide) : Touches l s u :=
  (h1.weaken e).trans h2

/-- The last change first: `u` comes from `t` by a change of regions of `l1`, all of them among `l`. -/
theorem Touches.back {l l1 : List Region} {s t u : State} (h2 : Touches l1 t u) (h1 : Touches l s t)
    (e : l1.all (fun r => l.contains r) = true) : Touches l s u := h1.trans (h2.weaken e)

theorem Touches.ite {c : Prop} [Decidable c] {l : List Region} {s t u : State} (h1 : Touches l s t) (h2 : Touches l s u) :
    Touches l s (if c then t else u) := by
  split
  · exact h1
  · exact h2

theorem Touches.foldl {α : Type} {l : List Region} {f : State → α → State} (h : ∀ s a, Touches l s (f s a))
    (xs : List α) (s : State) : Touches l s (xs.foldl f s) := by
  induction xs generalizing s with
  | nil => exact Touches.refl l s
  | cons x xs ih => exact (h s x).trans (ih (f s x))

theorem Touches.pins_eq {l : List Region} {s t : State} (h : Touches l s t)
    (e : l.contains .pins = false := by decide) : t.pins = s.pins := h.1 .pins (by simpa using e)

theorem Touches.part_eq {l : List Region} {s t : State} (h : Touches l s t)
    (e : l.contains .part = false := by decide) : t.part = s.part := h.1 .part (by simpa using e)

theorem Touches.cause_eq {l : List Region} {s t : State} (h : Touches l s t)
    (e : l.contains .cause = false := by decide) : t.cause = s.cause := h.1 .cause (by simpa using e)

theorem Touches.base_eq {l : List Region} {s t : State} (h : Touches l s t)
    (e : l.contains .base = false := by decide) : t.base = s.base := h.1 .base (by simpa using e)

theorem Touches.mem_eq {l : List Region} {s t : State} (h : Touches l s t)
    (e : l.contains .mem = false := by decide) : t.mem = s.mem := h.1 .mem (by simpa using e)

theorem Touches.path_eq {l : List Region} {s t : State} (h : Touches l s t)
    (e : l.contains .path = false := by decide) : t.path = s.path := h.1 .path (by simpa using e)

theorem Touches.engine_eq {l : List Region} {s t : State} (h : Touches l s t)
    (e : l.contains .engine = false := by decide) : t.engine = s.engine := h.1 .engine (by simpa using e)

theorem Touches.notices_eq {l : List Region} {s t : State} (h : Touches l s t)
    (e : l.contains .notices = false := by decide) : t.notices = s.notices := h.1 .notices (by simpa using e)

theorem Touches.marks_eq {l : List Region} {s t : State} (h : Touches l s t)
    (e : l.contains .marks = false := by decide) : t.marks = s.marks := h.1 .marks (by simpa using e)

theorem Touches.stories_eq {l : List Region} {s t : State} (h : Touches l s t)
    (e : l.contains .stories = false := by decide) : t.stories = s.stories := h.1 .stories (by simpa using e)

theorem Touches.baskets_eq {l : List Region} {s t : State} (h : Touches l s t)
    (e : l.contains .baskets = false := by decide) : t.baskets = s.baskets := h.1 .baskets (by simpa using e)

theorem Touches.copyfit_eq {l : List Region} {s t : State} (h : Touches l s t)
    (e : l.contains .copyfit = false := by decide) : t.copyfit = s.copyfit := h.1 .copyfit (by simpa using e)

theorem Touches.clock_eq {l : List Region} {s t : State} (h : Touches l s t)
    (e : l.contains .clock = false := by decide) : t.clock = s.clock := h.1 .clock (by simpa using e)

theorem Touches.pages_eq {l : List Region} {s t : State} (h : Touches l s t)
    (e : l.contains .pages = false := by decide) : t.pages = s.pages := h.1 .pages (by simpa using e)

theorem Touches.sendQueue_eq {l : List Region} {s t : State} (h : Touches l s t)
    (e : l.contains .sendQueue = false := by decide) : t.sendQueue = s.sendQueue := h.1 .sendQueue (by simpa using e)

theorem Touches.link_eq {l : List Region} {s t : State} (h : Touches l s t)
    (e : l.contains .link = false := by decide) : t.link = s.link := h.1 .link (by simpa using e)

theorem Touches.lines_eq {l : List Region} {s t : State} (h : Touches l s t)
    (e : l.contains .lines = false := by decide) : t.lines = s.lines := h.1 .lines (by simpa using e)

theorem Touches.terms_eq {l : List Region} {s t : State} (h : Touches l s t)
    (e : l.contains .terms = false := by decide) : t.terms = s.terms := h.1 .terms (by simpa using e)

theorem Touches.scanner_eq {l : List Region} {s t : State} (h : Touches l s t)
    (e : l.contains .scanner = false := by decide) : t.scanner = s.scanner := h.1 .scanner (by simpa using e)

theorem Touches.free_eq {l : List Region} {s t : State} (h : Touches l s t)
    (e : l.contains .free = false := by decide) : t.free = s.free := h.1 .free (by simpa using e)

theorem Touches.pending_eq {l : List Region} {s t : State} (h : Touches l s t)
    (e : l.contains .pending = false := by decide) : t.pending = s.pending := h.1 .pending (by simpa using e)

/-- The last change is a fold. -/
theorem Touches.foldlBack {α : Type} {l : List Region} {f : State → α → State} {xs : List α} {s t : State}
    (h : ∀ s a, Touches l s (f s a)) (h1 : Touches l s t) : Touches l s (xs.foldl f t) :=
  h1.trans (Touches.foldl h xs t)

end Sys2Proof.Machine
end

