-- ==== Sys2Proof/Laws/Tables.lean ====
section
/-! SUPPORT. Reading a table after it is filled, built, mapped or changed. -/

namespace Sys2Proof.Machine

theorem Table.at0_fill {α : Type} (n : Nat) (a : α) (i : Nat) : (Table.fill n a).at0 a i = a := by
  unfold Table.at0 Table.fill
  simp only [List.getD_eq_getElem?_getD, List.getElem?_replicate]
  split <;> rfl

theorem Table.at0_fill_lt {α : Type} {n : Nat} (a d : α) {i : Nat} (h : i < n) : (Table.fill n a).at0 d i = a := by
  unfold Table.at0 Table.fill
  simp [List.getD_eq_getElem?_getD, h]

theorem Table.at1_fill {α : Type} (n : Nat) (a : α) (i : Nat) : (Table.fill n a).at1 a i = a := by
  unfold Table.at1
  split
  · rfl
  · exact Table.at0_fill n a (i - 1)

theorem Table.at0_build {α : Type} {n : Nat} (f : Nat → α) (d : α) {i : Nat} (h : i < n) :
    (Table.build n f).at0 d i = f i := by
  unfold Table.at0 Table.build
  simp [List.getD_eq_getElem?_getD, h]

theorem Table.at0_build_ge {α : Type} {n : Nat} (f : Nat → α) (d : α) {i : Nat} (h : n ≤ i) :
    (Table.build n f).at0 d i = d := by
  unfold Table.at0 Table.build
  simp [List.getD_eq_getElem?_getD, Nat.not_lt.mpr h]

theorem Table.at1_build {α : Type} {n : Nat} (f : Nat → α) (d : α) {i : Nat} (h0 : i ≠ 0) (h : i ≤ n) :
    (Table.build n f).at1 d i = f (i - 1) := by
  unfold Table.at1
  rw [if_neg h0, Table.at0_build]
  omega

theorem Table.at0_ge {α : Type} {n : Nat} (t : Table n α) (d : α) {i : Nat} (h : n ≤ i) : t.at0 d i = d := by
  unfold Table.at0
  rw [List.getD_eq_getElem?_getD, List.getElem?_eq_none (by rw [t.size_eq]; exact h)]
  rfl

theorem Table.at1_zero {α : Type} {n : Nat} (t : Table n α) (d : α) : t.at1 d 0 = d := rfl

theorem Table.at1_gt {α : Type} {n : Nat} (t : Table n α) (d : α) {i : Nat} (h : n < i) : t.at1 d i = d := by
  unfold Table.at1
  split
  · rfl
  · exact Table.at0_ge t d (by omega)

theorem Table.at0_set0 {α : Type} {n : Nat} (t : Table n α) (d a : α) (i j : Nat) :
    (t.set0 i a).at0 d j = if i = j ∧ i < n then a else t.at0 d j := by
  unfold Table.at0 Table.set0
  simp only [List.getD_eq_getElem?_getD, List.getElem?_set, t.size_eq]
  by_cases h : i = j
  · subst h
    by_cases h2 : i < n
    · simp [h2]
    · simp [h2, List.getElem?_eq_none (show t.entries.length ≤ i by rw [t.size_eq]; omega)]
  · simp [h]

theorem Table.at0_set0_self {α : Type} {n : Nat} (t : Table n α) (d a : α) {i : Nat} (h : i < n) :
    (t.set0 i a).at0 d i = a := by rw [Table.at0_set0, if_pos ⟨rfl, h⟩]

theorem Table.at0_set0_ne {α : Type} {n : Nat} (t : Table n α) (d a : α) {i j : Nat} (h : i ≠ j) :
    (t.set0 i a).at0 d j = t.at0 d j := by rw [Table.at0_set0, if_neg (fun c => h c.1)]

theorem Table.at1_set1 {α : Type} {n : Nat} (t : Table n α) (d a : α) (i j : Nat) :
    (t.set1 i a).at1 d j = if i = j ∧ 1 ≤ i ∧ i ≤ n then a else t.at1 d j := by
  unfold Table.at1 Table.set1
  by_cases hi : i = 0
  · subst hi
    simp
  · rw [if_neg hi, Table.at0_set0]
    by_cases hj : j = 0
    · subst hj
      rw [if_pos rfl, if_neg (fun c => hi c.1), if_pos rfl]
    · rw [if_neg hj, if_neg hj]
      by_cases h : i = j ∧ 1 ≤ i ∧ i ≤ n
      · rw [if_pos h, if_pos ⟨by omega, by omega⟩]
      · rw [if_neg h, if_neg (by omega)]

theorem Table.at1_set1_self {α : Type} {n : Nat} (t : Table n α) (d a : α) {i : Nat} (h : 1 ≤ i ∧ i ≤ n) :
    (t.set1 i a).at1 d i = a := by rw [Table.at1_set1, if_pos ⟨rfl, h⟩]

theorem Table.at1_set1_ne {α : Type} {n : Nat} (t : Table n α) (d a : α) {i j : Nat} (h : i ≠ j) :
    (t.set1 i a).at1 d j = t.at1 d j := by rw [Table.at1_set1, if_neg (fun c => h c.1)]

theorem Table.set1_out {α : Type} {n : Nat} (t : Table n α) (a : α) {i : Nat} (h : ¬(1 ≤ i ∧ i ≤ n)) : t.set1 i a = t := by
  unfold Table.set1
  split
  · rfl
  · unfold Table.set0
    have : t.entries.set (i - 1) a = t.entries := List.set_eq_of_length_le (by rw [t.size_eq]; omega)
    cases t
    simp_all

theorem Table.set0_out {α : Type} {n : Nat} (t : Table n α) (a : α) {i : Nat} (h : n ≤ i) : t.set0 i a = t := by
  unfold Table.set0
  have : t.entries.set i a = t.entries := List.set_eq_of_length_le (by rw [t.size_eq]; omega)
  cases t
  simp_all

theorem Table.at0_map {α β : Type} {n : Nat} (t : Table n α) (f : α → β) (d : α) (i : Nat) :
    (t.map f).at0 (f d) i = f (t.at0 d i) := by
  unfold Table.at0 Table.map
  simp only [List.getD_eq_getElem?_getD, List.getElem?_map]
  cases t.entries[i]? <;> rfl

theorem Table.ext_entries {α : Type} {n : Nat} {t u : Table n α} (h : t.entries = u.entries) : t = u := by
  cases t
  cases u
  simp_all

end Sys2Proof.Machine
end

