-- ==== Sys2Proof/Laws/State.lean ====
section
/-! SUPPORT. What the basic updates of the state change, field by field. -/

namespace Sys2Proof.Machine

theorem State.withPins_touches (s : State) (x : Pins) : Touches [.pins] s (s.withPins x) :=
  ⟨fun r h => by cases r <;> first | rfl | exact absurd (List.mem_singleton.mpr rfl) h, .of_eq rfl⟩

@[simp] theorem State.withPins_pins (s : State) (x : Pins) : (s.withPins x).pins = x := rfl

@[simp] theorem State.withPins_part (s : State) (x : Pins) : (s.withPins x).part = s.part := rfl

@[simp] theorem State.withPins_cause (s : State) (x : Pins) : (s.withPins x).cause = s.cause := rfl

@[simp] theorem State.withPins_base (s : State) (x : Pins) : (s.withPins x).base = s.base := rfl

@[simp] theorem State.withPins_mem (s : State) (x : Pins) : (s.withPins x).mem = s.mem := rfl

@[simp] theorem State.withPins_path (s : State) (x : Pins) : (s.withPins x).path = s.path := rfl

@[simp] theorem State.withPins_engine (s : State) (x : Pins) : (s.withPins x).engine = s.engine := rfl

@[simp] theorem State.withPins_notices (s : State) (x : Pins) : (s.withPins x).notices = s.notices := rfl

@[simp] theorem State.withPins_marks (s : State) (x : Pins) : (s.withPins x).marks = s.marks := rfl

@[simp] theorem State.withPins_stories (s : State) (x : Pins) : (s.withPins x).stories = s.stories := rfl

@[simp] theorem State.withPins_baskets (s : State) (x : Pins) : (s.withPins x).baskets = s.baskets := rfl

@[simp] theorem State.withPins_copyfit (s : State) (x : Pins) : (s.withPins x).copyfit = s.copyfit := rfl

@[simp] theorem State.withPins_clock (s : State) (x : Pins) : (s.withPins x).clock = s.clock := rfl

@[simp] theorem State.withPins_pages (s : State) (x : Pins) : (s.withPins x).pages = s.pages := rfl

@[simp] theorem State.withPins_sendQueue (s : State) (x : Pins) : (s.withPins x).sendQueue = s.sendQueue := rfl

@[simp] theorem State.withPins_link (s : State) (x : Pins) : (s.withPins x).link = s.link := rfl

@[simp] theorem State.withPins_lines (s : State) (x : Pins) : (s.withPins x).lines = s.lines := rfl

@[simp] theorem State.withPins_terms (s : State) (x : Pins) : (s.withPins x).terms = s.terms := rfl

@[simp] theorem State.withPins_scanner (s : State) (x : Pins) : (s.withPins x).scanner = s.scanner := rfl

@[simp] theorem State.withPins_free (s : State) (x : Pins) : (s.withPins x).free = s.free := rfl

@[simp] theorem State.withPins_pending (s : State) (x : Pins) : (s.withPins x).pending = s.pending := rfl

theorem State.withPart_touches (s : State) (x : PartState) : Touches [.part] s (s.withPart x) :=
  ⟨fun r h => by cases r <;> first | rfl | exact absurd (List.mem_singleton.mpr rfl) h, .of_eq rfl⟩

@[simp] theorem State.withPart_pins (s : State) (x : PartState) : (s.withPart x).pins = s.pins := rfl

@[simp] theorem State.withPart_part (s : State) (x : PartState) : (s.withPart x).part = x := rfl

@[simp] theorem State.withPart_cause (s : State) (x : PartState) : (s.withPart x).cause = s.cause := rfl

@[simp] theorem State.withPart_base (s : State) (x : PartState) : (s.withPart x).base = s.base := rfl

@[simp] theorem State.withPart_mem (s : State) (x : PartState) : (s.withPart x).mem = s.mem := rfl

@[simp] theorem State.withPart_path (s : State) (x : PartState) : (s.withPart x).path = s.path := rfl

@[simp] theorem State.withPart_engine (s : State) (x : PartState) : (s.withPart x).engine = s.engine := rfl

@[simp] theorem State.withPart_notices (s : State) (x : PartState) : (s.withPart x).notices = s.notices := rfl

@[simp] theorem State.withPart_marks (s : State) (x : PartState) : (s.withPart x).marks = s.marks := rfl

@[simp] theorem State.withPart_stories (s : State) (x : PartState) : (s.withPart x).stories = s.stories := rfl

@[simp] theorem State.withPart_baskets (s : State) (x : PartState) : (s.withPart x).baskets = s.baskets := rfl

@[simp] theorem State.withPart_copyfit (s : State) (x : PartState) : (s.withPart x).copyfit = s.copyfit := rfl

@[simp] theorem State.withPart_clock (s : State) (x : PartState) : (s.withPart x).clock = s.clock := rfl

@[simp] theorem State.withPart_pages (s : State) (x : PartState) : (s.withPart x).pages = s.pages := rfl

@[simp] theorem State.withPart_sendQueue (s : State) (x : PartState) : (s.withPart x).sendQueue = s.sendQueue := rfl

@[simp] theorem State.withPart_link (s : State) (x : PartState) : (s.withPart x).link = s.link := rfl

@[simp] theorem State.withPart_lines (s : State) (x : PartState) : (s.withPart x).lines = s.lines := rfl

@[simp] theorem State.withPart_terms (s : State) (x : PartState) : (s.withPart x).terms = s.terms := rfl

@[simp] theorem State.withPart_scanner (s : State) (x : PartState) : (s.withPart x).scanner = s.scanner := rfl

@[simp] theorem State.withPart_free (s : State) (x : PartState) : (s.withPart x).free = s.free := rfl

@[simp] theorem State.withPart_pending (s : State) (x : PartState) : (s.withPart x).pending = s.pending := rfl

theorem State.withCause_touches (s : State) (x : PartCause) : Touches [.cause] s (s.withCause x) :=
  ⟨fun r h => by cases r <;> first | rfl | exact absurd (List.mem_singleton.mpr rfl) h, .of_eq rfl⟩

@[simp] theorem State.withCause_pins (s : State) (x : PartCause) : (s.withCause x).pins = s.pins := rfl

@[simp] theorem State.withCause_part (s : State) (x : PartCause) : (s.withCause x).part = s.part := rfl

@[simp] theorem State.withCause_cause (s : State) (x : PartCause) : (s.withCause x).cause = x := rfl

@[simp] theorem State.withCause_base (s : State) (x : PartCause) : (s.withCause x).base = s.base := rfl

@[simp] theorem State.withCause_mem (s : State) (x : PartCause) : (s.withCause x).mem = s.mem := rfl

@[simp] theorem State.withCause_path (s : State) (x : PartCause) : (s.withCause x).path = s.path := rfl

@[simp] theorem State.withCause_engine (s : State) (x : PartCause) : (s.withCause x).engine = s.engine := rfl

@[simp] theorem State.withCause_notices (s : State) (x : PartCause) : (s.withCause x).notices = s.notices := rfl

@[simp] theorem State.withCause_marks (s : State) (x : PartCause) : (s.withCause x).marks = s.marks := rfl

@[simp] theorem State.withCause_stories (s : State) (x : PartCause) : (s.withCause x).stories = s.stories := rfl

@[simp] theorem State.withCause_baskets (s : State) (x : PartCause) : (s.withCause x).baskets = s.baskets := rfl

@[simp] theorem State.withCause_copyfit (s : State) (x : PartCause) : (s.withCause x).copyfit = s.copyfit := rfl

@[simp] theorem State.withCause_clock (s : State) (x : PartCause) : (s.withCause x).clock = s.clock := rfl

@[simp] theorem State.withCause_pages (s : State) (x : PartCause) : (s.withCause x).pages = s.pages := rfl

@[simp] theorem State.withCause_sendQueue (s : State) (x : PartCause) : (s.withCause x).sendQueue = s.sendQueue := rfl

@[simp] theorem State.withCause_link (s : State) (x : PartCause) : (s.withCause x).link = s.link := rfl

@[simp] theorem State.withCause_lines (s : State) (x : PartCause) : (s.withCause x).lines = s.lines := rfl

@[simp] theorem State.withCause_terms (s : State) (x : PartCause) : (s.withCause x).terms = s.terms := rfl

@[simp] theorem State.withCause_scanner (s : State) (x : PartCause) : (s.withCause x).scanner = s.scanner := rfl

@[simp] theorem State.withCause_free (s : State) (x : PartCause) : (s.withCause x).free = s.free := rfl

@[simp] theorem State.withCause_pending (s : State) (x : PartCause) : (s.withCause x).pending = s.pending := rfl

theorem State.withBase_touches (s : State) (x : Nat) : Touches [.base] s (s.withBase x) :=
  ⟨fun r h => by cases r <;> first | rfl | exact absurd (List.mem_singleton.mpr rfl) h, .of_eq rfl⟩

@[simp] theorem State.withBase_pins (s : State) (x : Nat) : (s.withBase x).pins = s.pins := rfl

@[simp] theorem State.withBase_part (s : State) (x : Nat) : (s.withBase x).part = s.part := rfl

@[simp] theorem State.withBase_cause (s : State) (x : Nat) : (s.withBase x).cause = s.cause := rfl

@[simp] theorem State.withBase_base (s : State) (x : Nat) : (s.withBase x).base = x := rfl

@[simp] theorem State.withBase_mem (s : State) (x : Nat) : (s.withBase x).mem = s.mem := rfl

@[simp] theorem State.withBase_path (s : State) (x : Nat) : (s.withBase x).path = s.path := rfl

@[simp] theorem State.withBase_engine (s : State) (x : Nat) : (s.withBase x).engine = s.engine := rfl

@[simp] theorem State.withBase_notices (s : State) (x : Nat) : (s.withBase x).notices = s.notices := rfl

@[simp] theorem State.withBase_marks (s : State) (x : Nat) : (s.withBase x).marks = s.marks := rfl

@[simp] theorem State.withBase_stories (s : State) (x : Nat) : (s.withBase x).stories = s.stories := rfl

@[simp] theorem State.withBase_baskets (s : State) (x : Nat) : (s.withBase x).baskets = s.baskets := rfl

@[simp] theorem State.withBase_copyfit (s : State) (x : Nat) : (s.withBase x).copyfit = s.copyfit := rfl

@[simp] theorem State.withBase_clock (s : State) (x : Nat) : (s.withBase x).clock = s.clock := rfl

@[simp] theorem State.withBase_pages (s : State) (x : Nat) : (s.withBase x).pages = s.pages := rfl

@[simp] theorem State.withBase_sendQueue (s : State) (x : Nat) : (s.withBase x).sendQueue = s.sendQueue := rfl

@[simp] theorem State.withBase_link (s : State) (x : Nat) : (s.withBase x).link = s.link := rfl

@[simp] theorem State.withBase_lines (s : State) (x : Nat) : (s.withBase x).lines = s.lines := rfl

@[simp] theorem State.withBase_terms (s : State) (x : Nat) : (s.withBase x).terms = s.terms := rfl

@[simp] theorem State.withBase_scanner (s : State) (x : Nat) : (s.withBase x).scanner = s.scanner := rfl

@[simp] theorem State.withBase_free (s : State) (x : Nat) : (s.withBase x).free = s.free := rfl

@[simp] theorem State.withBase_pending (s : State) (x : Nat) : (s.withBase x).pending = s.pending := rfl

theorem State.withMem_touches (s : State) (x : Memory) : Touches [.mem] s (s.withMem x) :=
  ⟨fun r h => by cases r <;> first | rfl | exact absurd (List.mem_singleton.mpr rfl) h, .of_eq rfl⟩

@[simp] theorem State.withMem_pins (s : State) (x : Memory) : (s.withMem x).pins = s.pins := rfl

@[simp] theorem State.withMem_part (s : State) (x : Memory) : (s.withMem x).part = s.part := rfl

@[simp] theorem State.withMem_cause (s : State) (x : Memory) : (s.withMem x).cause = s.cause := rfl

@[simp] theorem State.withMem_base (s : State) (x : Memory) : (s.withMem x).base = s.base := rfl

@[simp] theorem State.withMem_mem (s : State) (x : Memory) : (s.withMem x).mem = x := rfl

@[simp] theorem State.withMem_path (s : State) (x : Memory) : (s.withMem x).path = s.path := rfl

@[simp] theorem State.withMem_engine (s : State) (x : Memory) : (s.withMem x).engine = s.engine := rfl

@[simp] theorem State.withMem_notices (s : State) (x : Memory) : (s.withMem x).notices = s.notices := rfl

@[simp] theorem State.withMem_marks (s : State) (x : Memory) : (s.withMem x).marks = s.marks := rfl

@[simp] theorem State.withMem_stories (s : State) (x : Memory) : (s.withMem x).stories = s.stories := rfl

@[simp] theorem State.withMem_baskets (s : State) (x : Memory) : (s.withMem x).baskets = s.baskets := rfl

@[simp] theorem State.withMem_copyfit (s : State) (x : Memory) : (s.withMem x).copyfit = s.copyfit := rfl

@[simp] theorem State.withMem_clock (s : State) (x : Memory) : (s.withMem x).clock = s.clock := rfl

@[simp] theorem State.withMem_pages (s : State) (x : Memory) : (s.withMem x).pages = s.pages := rfl

@[simp] theorem State.withMem_sendQueue (s : State) (x : Memory) : (s.withMem x).sendQueue = s.sendQueue := rfl

@[simp] theorem State.withMem_link (s : State) (x : Memory) : (s.withMem x).link = s.link := rfl

@[simp] theorem State.withMem_lines (s : State) (x : Memory) : (s.withMem x).lines = s.lines := rfl

@[simp] theorem State.withMem_terms (s : State) (x : Memory) : (s.withMem x).terms = s.terms := rfl

@[simp] theorem State.withMem_scanner (s : State) (x : Memory) : (s.withMem x).scanner = s.scanner := rfl

@[simp] theorem State.withMem_free (s : State) (x : Memory) : (s.withMem x).free = s.free := rfl

@[simp] theorem State.withMem_pending (s : State) (x : Memory) : (s.withMem x).pending = s.pending := rfl

theorem State.withPath_touches (s : State) (x : Path) : Touches [.path] s (s.withPath x) :=
  ⟨fun r h => by cases r <;> first | rfl | exact absurd (List.mem_singleton.mpr rfl) h, .of_eq rfl⟩

@[simp] theorem State.withPath_pins (s : State) (x : Path) : (s.withPath x).pins = s.pins := rfl

@[simp] theorem State.withPath_part (s : State) (x : Path) : (s.withPath x).part = s.part := rfl

@[simp] theorem State.withPath_cause (s : State) (x : Path) : (s.withPath x).cause = s.cause := rfl

@[simp] theorem State.withPath_base (s : State) (x : Path) : (s.withPath x).base = s.base := rfl

@[simp] theorem State.withPath_mem (s : State) (x : Path) : (s.withPath x).mem = s.mem := rfl

@[simp] theorem State.withPath_path (s : State) (x : Path) : (s.withPath x).path = x := rfl

@[simp] theorem State.withPath_engine (s : State) (x : Path) : (s.withPath x).engine = s.engine := rfl

@[simp] theorem State.withPath_notices (s : State) (x : Path) : (s.withPath x).notices = s.notices := rfl

@[simp] theorem State.withPath_marks (s : State) (x : Path) : (s.withPath x).marks = s.marks := rfl

@[simp] theorem State.withPath_stories (s : State) (x : Path) : (s.withPath x).stories = s.stories := rfl

@[simp] theorem State.withPath_baskets (s : State) (x : Path) : (s.withPath x).baskets = s.baskets := rfl

@[simp] theorem State.withPath_copyfit (s : State) (x : Path) : (s.withPath x).copyfit = s.copyfit := rfl

@[simp] theorem State.withPath_clock (s : State) (x : Path) : (s.withPath x).clock = s.clock := rfl

@[simp] theorem State.withPath_pages (s : State) (x : Path) : (s.withPath x).pages = s.pages := rfl

@[simp] theorem State.withPath_sendQueue (s : State) (x : Path) : (s.withPath x).sendQueue = s.sendQueue := rfl

@[simp] theorem State.withPath_link (s : State) (x : Path) : (s.withPath x).link = s.link := rfl

@[simp] theorem State.withPath_lines (s : State) (x : Path) : (s.withPath x).lines = s.lines := rfl

@[simp] theorem State.withPath_terms (s : State) (x : Path) : (s.withPath x).terms = s.terms := rfl

@[simp] theorem State.withPath_scanner (s : State) (x : Path) : (s.withPath x).scanner = s.scanner := rfl

@[simp] theorem State.withPath_free (s : State) (x : Path) : (s.withPath x).free = s.free := rfl

@[simp] theorem State.withPath_pending (s : State) (x : Path) : (s.withPath x).pending = s.pending := rfl

theorem State.withEngine_touches (s : State) (x : Engine) : Touches [.engine] s (s.withEngine x) :=
  ⟨fun r h => by cases r <;> first | rfl | exact absurd (List.mem_singleton.mpr rfl) h, .of_eq rfl⟩

@[simp] theorem State.withEngine_pins (s : State) (x : Engine) : (s.withEngine x).pins = s.pins := rfl

@[simp] theorem State.withEngine_part (s : State) (x : Engine) : (s.withEngine x).part = s.part := rfl

@[simp] theorem State.withEngine_cause (s : State) (x : Engine) : (s.withEngine x).cause = s.cause := rfl

@[simp] theorem State.withEngine_base (s : State) (x : Engine) : (s.withEngine x).base = s.base := rfl

@[simp] theorem State.withEngine_mem (s : State) (x : Engine) : (s.withEngine x).mem = s.mem := rfl

@[simp] theorem State.withEngine_path (s : State) (x : Engine) : (s.withEngine x).path = s.path := rfl

@[simp] theorem State.withEngine_engine (s : State) (x : Engine) : (s.withEngine x).engine = x := rfl

@[simp] theorem State.withEngine_notices (s : State) (x : Engine) : (s.withEngine x).notices = s.notices := rfl

@[simp] theorem State.withEngine_marks (s : State) (x : Engine) : (s.withEngine x).marks = s.marks := rfl

@[simp] theorem State.withEngine_stories (s : State) (x : Engine) : (s.withEngine x).stories = s.stories := rfl

@[simp] theorem State.withEngine_baskets (s : State) (x : Engine) : (s.withEngine x).baskets = s.baskets := rfl

@[simp] theorem State.withEngine_copyfit (s : State) (x : Engine) : (s.withEngine x).copyfit = s.copyfit := rfl

@[simp] theorem State.withEngine_clock (s : State) (x : Engine) : (s.withEngine x).clock = s.clock := rfl

@[simp] theorem State.withEngine_pages (s : State) (x : Engine) : (s.withEngine x).pages = s.pages := rfl

@[simp] theorem State.withEngine_sendQueue (s : State) (x : Engine) : (s.withEngine x).sendQueue = s.sendQueue := rfl

@[simp] theorem State.withEngine_link (s : State) (x : Engine) : (s.withEngine x).link = s.link := rfl

@[simp] theorem State.withEngine_lines (s : State) (x : Engine) : (s.withEngine x).lines = s.lines := rfl

@[simp] theorem State.withEngine_terms (s : State) (x : Engine) : (s.withEngine x).terms = s.terms := rfl

@[simp] theorem State.withEngine_scanner (s : State) (x : Engine) : (s.withEngine x).scanner = s.scanner := rfl

@[simp] theorem State.withEngine_free (s : State) (x : Engine) : (s.withEngine x).free = s.free := rfl

@[simp] theorem State.withEngine_pending (s : State) (x : Engine) : (s.withEngine x).pending = s.pending := rfl

theorem State.withNotices_touches (s : State) (x : NoticeWriter) : Touches [.notices] s (s.withNotices x) :=
  ⟨fun r h => by cases r <;> first | rfl | exact absurd (List.mem_singleton.mpr rfl) h, .of_eq rfl⟩

@[simp] theorem State.withNotices_pins (s : State) (x : NoticeWriter) : (s.withNotices x).pins = s.pins := rfl

@[simp] theorem State.withNotices_part (s : State) (x : NoticeWriter) : (s.withNotices x).part = s.part := rfl

@[simp] theorem State.withNotices_cause (s : State) (x : NoticeWriter) : (s.withNotices x).cause = s.cause := rfl

@[simp] theorem State.withNotices_base (s : State) (x : NoticeWriter) : (s.withNotices x).base = s.base := rfl

@[simp] theorem State.withNotices_mem (s : State) (x : NoticeWriter) : (s.withNotices x).mem = s.mem := rfl

@[simp] theorem State.withNotices_path (s : State) (x : NoticeWriter) : (s.withNotices x).path = s.path := rfl

@[simp] theorem State.withNotices_engine (s : State) (x : NoticeWriter) : (s.withNotices x).engine = s.engine := rfl

@[simp] theorem State.withNotices_notices (s : State) (x : NoticeWriter) : (s.withNotices x).notices = x := rfl

@[simp] theorem State.withNotices_marks (s : State) (x : NoticeWriter) : (s.withNotices x).marks = s.marks := rfl

@[simp] theorem State.withNotices_stories (s : State) (x : NoticeWriter) : (s.withNotices x).stories = s.stories := rfl

@[simp] theorem State.withNotices_baskets (s : State) (x : NoticeWriter) : (s.withNotices x).baskets = s.baskets := rfl

@[simp] theorem State.withNotices_copyfit (s : State) (x : NoticeWriter) : (s.withNotices x).copyfit = s.copyfit := rfl

@[simp] theorem State.withNotices_clock (s : State) (x : NoticeWriter) : (s.withNotices x).clock = s.clock := rfl

@[simp] theorem State.withNotices_pages (s : State) (x : NoticeWriter) : (s.withNotices x).pages = s.pages := rfl

@[simp] theorem State.withNotices_sendQueue (s : State) (x : NoticeWriter) : (s.withNotices x).sendQueue = s.sendQueue := rfl

@[simp] theorem State.withNotices_link (s : State) (x : NoticeWriter) : (s.withNotices x).link = s.link := rfl

@[simp] theorem State.withNotices_lines (s : State) (x : NoticeWriter) : (s.withNotices x).lines = s.lines := rfl

@[simp] theorem State.withNotices_terms (s : State) (x : NoticeWriter) : (s.withNotices x).terms = s.terms := rfl

@[simp] theorem State.withNotices_scanner (s : State) (x : NoticeWriter) : (s.withNotices x).scanner = s.scanner := rfl

@[simp] theorem State.withNotices_free (s : State) (x : NoticeWriter) : (s.withNotices x).free = s.free := rfl

@[simp] theorem State.withNotices_pending (s : State) (x : NoticeWriter) : (s.withNotices x).pending = s.pending := rfl

@[simp] theorem State.withMarks_pins (s : State) (x : List MarkItem) : (s.withMarks x).pins = s.pins := rfl

@[simp] theorem State.withMarks_part (s : State) (x : List MarkItem) : (s.withMarks x).part = s.part := rfl

@[simp] theorem State.withMarks_cause (s : State) (x : List MarkItem) : (s.withMarks x).cause = s.cause := rfl

@[simp] theorem State.withMarks_base (s : State) (x : List MarkItem) : (s.withMarks x).base = s.base := rfl

@[simp] theorem State.withMarks_mem (s : State) (x : List MarkItem) : (s.withMarks x).mem = s.mem := rfl

@[simp] theorem State.withMarks_path (s : State) (x : List MarkItem) : (s.withMarks x).path = s.path := rfl

@[simp] theorem State.withMarks_engine (s : State) (x : List MarkItem) : (s.withMarks x).engine = s.engine := rfl

@[simp] theorem State.withMarks_notices (s : State) (x : List MarkItem) : (s.withMarks x).notices = s.notices := rfl

@[simp] theorem State.withMarks_marks (s : State) (x : List MarkItem) : (s.withMarks x).marks = x := rfl

@[simp] theorem State.withMarks_stories (s : State) (x : List MarkItem) : (s.withMarks x).stories = s.stories := rfl

@[simp] theorem State.withMarks_baskets (s : State) (x : List MarkItem) : (s.withMarks x).baskets = s.baskets := rfl

@[simp] theorem State.withMarks_copyfit (s : State) (x : List MarkItem) : (s.withMarks x).copyfit = s.copyfit := rfl

@[simp] theorem State.withMarks_clock (s : State) (x : List MarkItem) : (s.withMarks x).clock = s.clock := rfl

@[simp] theorem State.withMarks_pages (s : State) (x : List MarkItem) : (s.withMarks x).pages = s.pages := rfl

@[simp] theorem State.withMarks_sendQueue (s : State) (x : List MarkItem) : (s.withMarks x).sendQueue = s.sendQueue := rfl

@[simp] theorem State.withMarks_link (s : State) (x : List MarkItem) : (s.withMarks x).link = s.link := rfl

@[simp] theorem State.withMarks_lines (s : State) (x : List MarkItem) : (s.withMarks x).lines = s.lines := rfl

@[simp] theorem State.withMarks_terms (s : State) (x : List MarkItem) : (s.withMarks x).terms = s.terms := rfl

@[simp] theorem State.withMarks_scanner (s : State) (x : List MarkItem) : (s.withMarks x).scanner = s.scanner := rfl

@[simp] theorem State.withMarks_free (s : State) (x : List MarkItem) : (s.withMarks x).free = s.free := rfl

@[simp] theorem State.withMarks_pending (s : State) (x : List MarkItem) : (s.withMarks x).pending = s.pending := rfl

theorem State.withStories_touches (s : State) (x : Table 511 Story) : Touches [.stories] s (s.withStories x) :=
  ⟨fun r h => by cases r <;> first | rfl | exact absurd (List.mem_singleton.mpr rfl) h, .of_eq rfl⟩

@[simp] theorem State.withStories_pins (s : State) (x : Table 511 Story) : (s.withStories x).pins = s.pins := rfl

@[simp] theorem State.withStories_part (s : State) (x : Table 511 Story) : (s.withStories x).part = s.part := rfl

@[simp] theorem State.withStories_cause (s : State) (x : Table 511 Story) : (s.withStories x).cause = s.cause := rfl

@[simp] theorem State.withStories_base (s : State) (x : Table 511 Story) : (s.withStories x).base = s.base := rfl

@[simp] theorem State.withStories_mem (s : State) (x : Table 511 Story) : (s.withStories x).mem = s.mem := rfl

@[simp] theorem State.withStories_path (s : State) (x : Table 511 Story) : (s.withStories x).path = s.path := rfl

@[simp] theorem State.withStories_engine (s : State) (x : Table 511 Story) : (s.withStories x).engine = s.engine := rfl

@[simp] theorem State.withStories_notices (s : State) (x : Table 511 Story) : (s.withStories x).notices = s.notices := rfl

@[simp] theorem State.withStories_marks (s : State) (x : Table 511 Story) : (s.withStories x).marks = s.marks := rfl

@[simp] theorem State.withStories_stories (s : State) (x : Table 511 Story) : (s.withStories x).stories = x := rfl

@[simp] theorem State.withStories_baskets (s : State) (x : Table 511 Story) : (s.withStories x).baskets = s.baskets := rfl

@[simp] theorem State.withStories_copyfit (s : State) (x : Table 511 Story) : (s.withStories x).copyfit = s.copyfit := rfl

@[simp] theorem State.withStories_clock (s : State) (x : Table 511 Story) : (s.withStories x).clock = s.clock := rfl

@[simp] theorem State.withStories_pages (s : State) (x : Table 511 Story) : (s.withStories x).pages = s.pages := rfl

@[simp] theorem State.withStories_sendQueue (s : State) (x : Table 511 Story) : (s.withStories x).sendQueue = s.sendQueue := rfl

@[simp] theorem State.withStories_link (s : State) (x : Table 511 Story) : (s.withStories x).link = s.link := rfl

@[simp] theorem State.withStories_lines (s : State) (x : Table 511 Story) : (s.withStories x).lines = s.lines := rfl

@[simp] theorem State.withStories_terms (s : State) (x : Table 511 Story) : (s.withStories x).terms = s.terms := rfl

@[simp] theorem State.withStories_scanner (s : State) (x : Table 511 Story) : (s.withStories x).scanner = s.scanner := rfl

@[simp] theorem State.withStories_free (s : State) (x : Table 511 Story) : (s.withStories x).free = s.free := rfl

@[simp] theorem State.withStories_pending (s : State) (x : Table 511 Story) : (s.withStories x).pending = s.pending := rfl

theorem State.withBaskets_touches (s : State) (x : Table 23 (List Nat)) : Touches [.baskets] s (s.withBaskets x) :=
  ⟨fun r h => by cases r <;> first | rfl | exact absurd (List.mem_singleton.mpr rfl) h, .of_eq rfl⟩

@[simp] theorem State.withBaskets_pins (s : State) (x : Table 23 (List Nat)) : (s.withBaskets x).pins = s.pins := rfl

@[simp] theorem State.withBaskets_part (s : State) (x : Table 23 (List Nat)) : (s.withBaskets x).part = s.part := rfl

@[simp] theorem State.withBaskets_cause (s : State) (x : Table 23 (List Nat)) : (s.withBaskets x).cause = s.cause := rfl

@[simp] theorem State.withBaskets_base (s : State) (x : Table 23 (List Nat)) : (s.withBaskets x).base = s.base := rfl

@[simp] theorem State.withBaskets_mem (s : State) (x : Table 23 (List Nat)) : (s.withBaskets x).mem = s.mem := rfl

@[simp] theorem State.withBaskets_path (s : State) (x : Table 23 (List Nat)) : (s.withBaskets x).path = s.path := rfl

@[simp] theorem State.withBaskets_engine (s : State) (x : Table 23 (List Nat)) : (s.withBaskets x).engine = s.engine := rfl

@[simp] theorem State.withBaskets_notices (s : State) (x : Table 23 (List Nat)) : (s.withBaskets x).notices = s.notices := rfl

@[simp] theorem State.withBaskets_marks (s : State) (x : Table 23 (List Nat)) : (s.withBaskets x).marks = s.marks := rfl

@[simp] theorem State.withBaskets_stories (s : State) (x : Table 23 (List Nat)) : (s.withBaskets x).stories = s.stories := rfl

@[simp] theorem State.withBaskets_baskets (s : State) (x : Table 23 (List Nat)) : (s.withBaskets x).baskets = x := rfl

@[simp] theorem State.withBaskets_copyfit (s : State) (x : Table 23 (List Nat)) : (s.withBaskets x).copyfit = s.copyfit := rfl

@[simp] theorem State.withBaskets_clock (s : State) (x : Table 23 (List Nat)) : (s.withBaskets x).clock = s.clock := rfl

@[simp] theorem State.withBaskets_pages (s : State) (x : Table 23 (List Nat)) : (s.withBaskets x).pages = s.pages := rfl

@[simp] theorem State.withBaskets_sendQueue (s : State) (x : Table 23 (List Nat)) : (s.withBaskets x).sendQueue = s.sendQueue := rfl

@[simp] theorem State.withBaskets_link (s : State) (x : Table 23 (List Nat)) : (s.withBaskets x).link = s.link := rfl

@[simp] theorem State.withBaskets_lines (s : State) (x : Table 23 (List Nat)) : (s.withBaskets x).lines = s.lines := rfl

@[simp] theorem State.withBaskets_terms (s : State) (x : Table 23 (List Nat)) : (s.withBaskets x).terms = s.terms := rfl

@[simp] theorem State.withBaskets_scanner (s : State) (x : Table 23 (List Nat)) : (s.withBaskets x).scanner = s.scanner := rfl

@[simp] theorem State.withBaskets_free (s : State) (x : Table 23 (List Nat)) : (s.withBaskets x).free = s.free := rfl

@[simp] theorem State.withBaskets_pending (s : State) (x : Table 23 (List Nat)) : (s.withBaskets x).pending = s.pending := rfl

theorem State.withCopyfit_touches (s : State) (x : Copyfit) : Touches [.copyfit] s (s.withCopyfit x) :=
  ⟨fun r h => by cases r <;> first | rfl | exact absurd (List.mem_singleton.mpr rfl) h, .of_eq rfl⟩

@[simp] theorem State.withCopyfit_pins (s : State) (x : Copyfit) : (s.withCopyfit x).pins = s.pins := rfl

@[simp] theorem State.withCopyfit_part (s : State) (x : Copyfit) : (s.withCopyfit x).part = s.part := rfl

@[simp] theorem State.withCopyfit_cause (s : State) (x : Copyfit) : (s.withCopyfit x).cause = s.cause := rfl

@[simp] theorem State.withCopyfit_base (s : State) (x : Copyfit) : (s.withCopyfit x).base = s.base := rfl

@[simp] theorem State.withCopyfit_mem (s : State) (x : Copyfit) : (s.withCopyfit x).mem = s.mem := rfl

@[simp] theorem State.withCopyfit_path (s : State) (x : Copyfit) : (s.withCopyfit x).path = s.path := rfl

@[simp] theorem State.withCopyfit_engine (s : State) (x : Copyfit) : (s.withCopyfit x).engine = s.engine := rfl

@[simp] theorem State.withCopyfit_notices (s : State) (x : Copyfit) : (s.withCopyfit x).notices = s.notices := rfl

@[simp] theorem State.withCopyfit_marks (s : State) (x : Copyfit) : (s.withCopyfit x).marks = s.marks := rfl

@[simp] theorem State.withCopyfit_stories (s : State) (x : Copyfit) : (s.withCopyfit x).stories = s.stories := rfl

@[simp] theorem State.withCopyfit_baskets (s : State) (x : Copyfit) : (s.withCopyfit x).baskets = s.baskets := rfl

@[simp] theorem State.withCopyfit_copyfit (s : State) (x : Copyfit) : (s.withCopyfit x).copyfit = x := rfl

@[simp] theorem State.withCopyfit_clock (s : State) (x : Copyfit) : (s.withCopyfit x).clock = s.clock := rfl

@[simp] theorem State.withCopyfit_pages (s : State) (x : Copyfit) : (s.withCopyfit x).pages = s.pages := rfl

@[simp] theorem State.withCopyfit_sendQueue (s : State) (x : Copyfit) : (s.withCopyfit x).sendQueue = s.sendQueue := rfl

@[simp] theorem State.withCopyfit_link (s : State) (x : Copyfit) : (s.withCopyfit x).link = s.link := rfl

@[simp] theorem State.withCopyfit_lines (s : State) (x : Copyfit) : (s.withCopyfit x).lines = s.lines := rfl

@[simp] theorem State.withCopyfit_terms (s : State) (x : Copyfit) : (s.withCopyfit x).terms = s.terms := rfl

@[simp] theorem State.withCopyfit_scanner (s : State) (x : Copyfit) : (s.withCopyfit x).scanner = s.scanner := rfl

@[simp] theorem State.withCopyfit_free (s : State) (x : Copyfit) : (s.withCopyfit x).free = s.free := rfl

@[simp] theorem State.withCopyfit_pending (s : State) (x : Copyfit) : (s.withCopyfit x).pending = s.pending := rfl

theorem State.withClock_touches (s : State) (x : Clock) : Touches [.clock] s (s.withClock x) :=
  ⟨fun r h => by cases r <;> first | rfl | exact absurd (List.mem_singleton.mpr rfl) h, .of_eq rfl⟩

@[simp] theorem State.withClock_pins (s : State) (x : Clock) : (s.withClock x).pins = s.pins := rfl

@[simp] theorem State.withClock_part (s : State) (x : Clock) : (s.withClock x).part = s.part := rfl

@[simp] theorem State.withClock_cause (s : State) (x : Clock) : (s.withClock x).cause = s.cause := rfl

@[simp] theorem State.withClock_base (s : State) (x : Clock) : (s.withClock x).base = s.base := rfl

@[simp] theorem State.withClock_mem (s : State) (x : Clock) : (s.withClock x).mem = s.mem := rfl

@[simp] theorem State.withClock_path (s : State) (x : Clock) : (s.withClock x).path = s.path := rfl

@[simp] theorem State.withClock_engine (s : State) (x : Clock) : (s.withClock x).engine = s.engine := rfl

@[simp] theorem State.withClock_notices (s : State) (x : Clock) : (s.withClock x).notices = s.notices := rfl

@[simp] theorem State.withClock_marks (s : State) (x : Clock) : (s.withClock x).marks = s.marks := rfl

@[simp] theorem State.withClock_stories (s : State) (x : Clock) : (s.withClock x).stories = s.stories := rfl

@[simp] theorem State.withClock_baskets (s : State) (x : Clock) : (s.withClock x).baskets = s.baskets := rfl

@[simp] theorem State.withClock_copyfit (s : State) (x : Clock) : (s.withClock x).copyfit = s.copyfit := rfl

@[simp] theorem State.withClock_clock (s : State) (x : Clock) : (s.withClock x).clock = x := rfl

@[simp] theorem State.withClock_pages (s : State) (x : Clock) : (s.withClock x).pages = s.pages := rfl

@[simp] theorem State.withClock_sendQueue (s : State) (x : Clock) : (s.withClock x).sendQueue = s.sendQueue := rfl

@[simp] theorem State.withClock_link (s : State) (x : Clock) : (s.withClock x).link = s.link := rfl

@[simp] theorem State.withClock_lines (s : State) (x : Clock) : (s.withClock x).lines = s.lines := rfl

@[simp] theorem State.withClock_terms (s : State) (x : Clock) : (s.withClock x).terms = s.terms := rfl

@[simp] theorem State.withClock_scanner (s : State) (x : Clock) : (s.withClock x).scanner = s.scanner := rfl

@[simp] theorem State.withClock_free (s : State) (x : Clock) : (s.withClock x).free = s.free := rfl

@[simp] theorem State.withClock_pending (s : State) (x : Clock) : (s.withClock x).pending = s.pending := rfl

theorem State.withPages_touches (s : State) (x : Table 96 Page) : Touches [.pages] s (s.withPages x) :=
  ⟨fun r h => by cases r <;> first | rfl | exact absurd (List.mem_singleton.mpr rfl) h, .of_eq rfl⟩

@[simp] theorem State.withPages_pins (s : State) (x : Table 96 Page) : (s.withPages x).pins = s.pins := rfl

@[simp] theorem State.withPages_part (s : State) (x : Table 96 Page) : (s.withPages x).part = s.part := rfl

@[simp] theorem State.withPages_cause (s : State) (x : Table 96 Page) : (s.withPages x).cause = s.cause := rfl

@[simp] theorem State.withPages_base (s : State) (x : Table 96 Page) : (s.withPages x).base = s.base := rfl

@[simp] theorem State.withPages_mem (s : State) (x : Table 96 Page) : (s.withPages x).mem = s.mem := rfl

@[simp] theorem State.withPages_path (s : State) (x : Table 96 Page) : (s.withPages x).path = s.path := rfl

@[simp] theorem State.withPages_engine (s : State) (x : Table 96 Page) : (s.withPages x).engine = s.engine := rfl

@[simp] theorem State.withPages_notices (s : State) (x : Table 96 Page) : (s.withPages x).notices = s.notices := rfl

@[simp] theorem State.withPages_marks (s : State) (x : Table 96 Page) : (s.withPages x).marks = s.marks := rfl

@[simp] theorem State.withPages_stories (s : State) (x : Table 96 Page) : (s.withPages x).stories = s.stories := rfl

@[simp] theorem State.withPages_baskets (s : State) (x : Table 96 Page) : (s.withPages x).baskets = s.baskets := rfl

@[simp] theorem State.withPages_copyfit (s : State) (x : Table 96 Page) : (s.withPages x).copyfit = s.copyfit := rfl

@[simp] theorem State.withPages_clock (s : State) (x : Table 96 Page) : (s.withPages x).clock = s.clock := rfl

@[simp] theorem State.withPages_pages (s : State) (x : Table 96 Page) : (s.withPages x).pages = x := rfl

@[simp] theorem State.withPages_sendQueue (s : State) (x : Table 96 Page) : (s.withPages x).sendQueue = s.sendQueue := rfl

@[simp] theorem State.withPages_link (s : State) (x : Table 96 Page) : (s.withPages x).link = s.link := rfl

@[simp] theorem State.withPages_lines (s : State) (x : Table 96 Page) : (s.withPages x).lines = s.lines := rfl

@[simp] theorem State.withPages_terms (s : State) (x : Table 96 Page) : (s.withPages x).terms = s.terms := rfl

@[simp] theorem State.withPages_scanner (s : State) (x : Table 96 Page) : (s.withPages x).scanner = s.scanner := rfl

@[simp] theorem State.withPages_free (s : State) (x : Table 96 Page) : (s.withPages x).free = s.free := rfl

@[simp] theorem State.withPages_pending (s : State) (x : Table 96 Page) : (s.withPages x).pending = s.pending := rfl

theorem State.withSendQueue_touches (s : State) (x : List Nat) : Touches [.sendQueue] s (s.withSendQueue x) :=
  ⟨fun r h => by cases r <;> first | rfl | exact absurd (List.mem_singleton.mpr rfl) h, .of_eq rfl⟩

@[simp] theorem State.withSendQueue_pins (s : State) (x : List Nat) : (s.withSendQueue x).pins = s.pins := rfl

@[simp] theorem State.withSendQueue_part (s : State) (x : List Nat) : (s.withSendQueue x).part = s.part := rfl

@[simp] theorem State.withSendQueue_cause (s : State) (x : List Nat) : (s.withSendQueue x).cause = s.cause := rfl

@[simp] theorem State.withSendQueue_base (s : State) (x : List Nat) : (s.withSendQueue x).base = s.base := rfl

@[simp] theorem State.withSendQueue_mem (s : State) (x : List Nat) : (s.withSendQueue x).mem = s.mem := rfl

@[simp] theorem State.withSendQueue_path (s : State) (x : List Nat) : (s.withSendQueue x).path = s.path := rfl

@[simp] theorem State.withSendQueue_engine (s : State) (x : List Nat) : (s.withSendQueue x).engine = s.engine := rfl

@[simp] theorem State.withSendQueue_notices (s : State) (x : List Nat) : (s.withSendQueue x).notices = s.notices := rfl

@[simp] theorem State.withSendQueue_marks (s : State) (x : List Nat) : (s.withSendQueue x).marks = s.marks := rfl

@[simp] theorem State.withSendQueue_stories (s : State) (x : List Nat) : (s.withSendQueue x).stories = s.stories := rfl

@[simp] theorem State.withSendQueue_baskets (s : State) (x : List Nat) : (s.withSendQueue x).baskets = s.baskets := rfl

@[simp] theorem State.withSendQueue_copyfit (s : State) (x : List Nat) : (s.withSendQueue x).copyfit = s.copyfit := rfl

@[simp] theorem State.withSendQueue_clock (s : State) (x : List Nat) : (s.withSendQueue x).clock = s.clock := rfl

@[simp] theorem State.withSendQueue_pages (s : State) (x : List Nat) : (s.withSendQueue x).pages = s.pages := rfl

@[simp] theorem State.withSendQueue_sendQueue (s : State) (x : List Nat) : (s.withSendQueue x).sendQueue = x := rfl

@[simp] theorem State.withSendQueue_link (s : State) (x : List Nat) : (s.withSendQueue x).link = s.link := rfl

@[simp] theorem State.withSendQueue_lines (s : State) (x : List Nat) : (s.withSendQueue x).lines = s.lines := rfl

@[simp] theorem State.withSendQueue_terms (s : State) (x : List Nat) : (s.withSendQueue x).terms = s.terms := rfl

@[simp] theorem State.withSendQueue_scanner (s : State) (x : List Nat) : (s.withSendQueue x).scanner = s.scanner := rfl

@[simp] theorem State.withSendQueue_free (s : State) (x : List Nat) : (s.withSendQueue x).free = s.free := rfl

@[simp] theorem State.withSendQueue_pending (s : State) (x : List Nat) : (s.withSendQueue x).pending = s.pending := rfl

theorem State.withLink_touches (s : State) (x : Link) : Touches [.link] s (s.withLink x) :=
  ⟨fun r h => by cases r <;> first | rfl | exact absurd (List.mem_singleton.mpr rfl) h, .of_eq rfl⟩

@[simp] theorem State.withLink_pins (s : State) (x : Link) : (s.withLink x).pins = s.pins := rfl

@[simp] theorem State.withLink_part (s : State) (x : Link) : (s.withLink x).part = s.part := rfl

@[simp] theorem State.withLink_cause (s : State) (x : Link) : (s.withLink x).cause = s.cause := rfl

@[simp] theorem State.withLink_base (s : State) (x : Link) : (s.withLink x).base = s.base := rfl

@[simp] theorem State.withLink_mem (s : State) (x : Link) : (s.withLink x).mem = s.mem := rfl

@[simp] theorem State.withLink_path (s : State) (x : Link) : (s.withLink x).path = s.path := rfl

@[simp] theorem State.withLink_engine (s : State) (x : Link) : (s.withLink x).engine = s.engine := rfl

@[simp] theorem State.withLink_notices (s : State) (x : Link) : (s.withLink x).notices = s.notices := rfl

@[simp] theorem State.withLink_marks (s : State) (x : Link) : (s.withLink x).marks = s.marks := rfl

@[simp] theorem State.withLink_stories (s : State) (x : Link) : (s.withLink x).stories = s.stories := rfl

@[simp] theorem State.withLink_baskets (s : State) (x : Link) : (s.withLink x).baskets = s.baskets := rfl

@[simp] theorem State.withLink_copyfit (s : State) (x : Link) : (s.withLink x).copyfit = s.copyfit := rfl

@[simp] theorem State.withLink_clock (s : State) (x : Link) : (s.withLink x).clock = s.clock := rfl

@[simp] theorem State.withLink_pages (s : State) (x : Link) : (s.withLink x).pages = s.pages := rfl

@[simp] theorem State.withLink_sendQueue (s : State) (x : Link) : (s.withLink x).sendQueue = s.sendQueue := rfl

@[simp] theorem State.withLink_link (s : State) (x : Link) : (s.withLink x).link = x := rfl

@[simp] theorem State.withLink_lines (s : State) (x : Link) : (s.withLink x).lines = s.lines := rfl

@[simp] theorem State.withLink_terms (s : State) (x : Link) : (s.withLink x).terms = s.terms := rfl

@[simp] theorem State.withLink_scanner (s : State) (x : Link) : (s.withLink x).scanner = s.scanner := rfl

@[simp] theorem State.withLink_free (s : State) (x : Link) : (s.withLink x).free = s.free := rfl

@[simp] theorem State.withLink_pending (s : State) (x : Link) : (s.withLink x).pending = s.pending := rfl

theorem State.withLines_touches (s : State) (x : Table 16 Line) : Touches [.lines] s (s.withLines x) :=
  ⟨fun r h => by cases r <;> first | rfl | exact absurd (List.mem_singleton.mpr rfl) h, .of_eq rfl⟩

@[simp] theorem State.withLines_pins (s : State) (x : Table 16 Line) : (s.withLines x).pins = s.pins := rfl

@[simp] theorem State.withLines_part (s : State) (x : Table 16 Line) : (s.withLines x).part = s.part := rfl

@[simp] theorem State.withLines_cause (s : State) (x : Table 16 Line) : (s.withLines x).cause = s.cause := rfl

@[simp] theorem State.withLines_base (s : State) (x : Table 16 Line) : (s.withLines x).base = s.base := rfl

@[simp] theorem State.withLines_mem (s : State) (x : Table 16 Line) : (s.withLines x).mem = s.mem := rfl

@[simp] theorem State.withLines_path (s : State) (x : Table 16 Line) : (s.withLines x).path = s.path := rfl

@[simp] theorem State.withLines_engine (s : State) (x : Table 16 Line) : (s.withLines x).engine = s.engine := rfl

@[simp] theorem State.withLines_notices (s : State) (x : Table 16 Line) : (s.withLines x).notices = s.notices := rfl

@[simp] theorem State.withLines_marks (s : State) (x : Table 16 Line) : (s.withLines x).marks = s.marks := rfl

@[simp] theorem State.withLines_stories (s : State) (x : Table 16 Line) : (s.withLines x).stories = s.stories := rfl

@[simp] theorem State.withLines_baskets (s : State) (x : Table 16 Line) : (s.withLines x).baskets = s.baskets := rfl

@[simp] theorem State.withLines_copyfit (s : State) (x : Table 16 Line) : (s.withLines x).copyfit = s.copyfit := rfl

@[simp] theorem State.withLines_clock (s : State) (x : Table 16 Line) : (s.withLines x).clock = s.clock := rfl

@[simp] theorem State.withLines_pages (s : State) (x : Table 16 Line) : (s.withLines x).pages = s.pages := rfl

@[simp] theorem State.withLines_sendQueue (s : State) (x : Table 16 Line) : (s.withLines x).sendQueue = s.sendQueue := rfl

@[simp] theorem State.withLines_link (s : State) (x : Table 16 Line) : (s.withLines x).link = s.link := rfl

@[simp] theorem State.withLines_lines (s : State) (x : Table 16 Line) : (s.withLines x).lines = x := rfl

@[simp] theorem State.withLines_terms (s : State) (x : Table 16 Line) : (s.withLines x).terms = s.terms := rfl

@[simp] theorem State.withLines_scanner (s : State) (x : Table 16 Line) : (s.withLines x).scanner = s.scanner := rfl

@[simp] theorem State.withLines_free (s : State) (x : Table 16 Line) : (s.withLines x).free = s.free := rfl

@[simp] theorem State.withLines_pending (s : State) (x : Table 16 Line) : (s.withLines x).pending = s.pending := rfl

theorem State.withTerms_touches (s : State) (x : Table 64 Terminal) : Touches [.terms] s (s.withTerms x) :=
  ⟨fun r h => by cases r <;> first | rfl | exact absurd (List.mem_singleton.mpr rfl) h, .of_eq rfl⟩

@[simp] theorem State.withTerms_pins (s : State) (x : Table 64 Terminal) : (s.withTerms x).pins = s.pins := rfl

@[simp] theorem State.withTerms_part (s : State) (x : Table 64 Terminal) : (s.withTerms x).part = s.part := rfl

@[simp] theorem State.withTerms_cause (s : State) (x : Table 64 Terminal) : (s.withTerms x).cause = s.cause := rfl

@[simp] theorem State.withTerms_base (s : State) (x : Table 64 Terminal) : (s.withTerms x).base = s.base := rfl

@[simp] theorem State.withTerms_mem (s : State) (x : Table 64 Terminal) : (s.withTerms x).mem = s.mem := rfl

@[simp] theorem State.withTerms_path (s : State) (x : Table 64 Terminal) : (s.withTerms x).path = s.path := rfl

@[simp] theorem State.withTerms_engine (s : State) (x : Table 64 Terminal) : (s.withTerms x).engine = s.engine := rfl

@[simp] theorem State.withTerms_notices (s : State) (x : Table 64 Terminal) : (s.withTerms x).notices = s.notices := rfl

@[simp] theorem State.withTerms_marks (s : State) (x : Table 64 Terminal) : (s.withTerms x).marks = s.marks := rfl

@[simp] theorem State.withTerms_stories (s : State) (x : Table 64 Terminal) : (s.withTerms x).stories = s.stories := rfl

@[simp] theorem State.withTerms_baskets (s : State) (x : Table 64 Terminal) : (s.withTerms x).baskets = s.baskets := rfl

@[simp] theorem State.withTerms_copyfit (s : State) (x : Table 64 Terminal) : (s.withTerms x).copyfit = s.copyfit := rfl

@[simp] theorem State.withTerms_clock (s : State) (x : Table 64 Terminal) : (s.withTerms x).clock = s.clock := rfl

@[simp] theorem State.withTerms_pages (s : State) (x : Table 64 Terminal) : (s.withTerms x).pages = s.pages := rfl

@[simp] theorem State.withTerms_sendQueue (s : State) (x : Table 64 Terminal) : (s.withTerms x).sendQueue = s.sendQueue := rfl

@[simp] theorem State.withTerms_link (s : State) (x : Table 64 Terminal) : (s.withTerms x).link = s.link := rfl

@[simp] theorem State.withTerms_lines (s : State) (x : Table 64 Terminal) : (s.withTerms x).lines = s.lines := rfl

@[simp] theorem State.withTerms_terms (s : State) (x : Table 64 Terminal) : (s.withTerms x).terms = x := rfl

@[simp] theorem State.withTerms_scanner (s : State) (x : Table 64 Terminal) : (s.withTerms x).scanner = s.scanner := rfl

@[simp] theorem State.withTerms_free (s : State) (x : Table 64 Terminal) : (s.withTerms x).free = s.free := rfl

@[simp] theorem State.withTerms_pending (s : State) (x : Table 64 Terminal) : (s.withTerms x).pending = s.pending := rfl

theorem State.withScanner_touches (s : State) (x : Scanner) : Touches [.scanner] s (s.withScanner x) :=
  ⟨fun r h => by cases r <;> first | rfl | exact absurd (List.mem_singleton.mpr rfl) h, .of_eq rfl⟩

@[simp] theorem State.withScanner_pins (s : State) (x : Scanner) : (s.withScanner x).pins = s.pins := rfl

@[simp] theorem State.withScanner_part (s : State) (x : Scanner) : (s.withScanner x).part = s.part := rfl

@[simp] theorem State.withScanner_cause (s : State) (x : Scanner) : (s.withScanner x).cause = s.cause := rfl

@[simp] theorem State.withScanner_base (s : State) (x : Scanner) : (s.withScanner x).base = s.base := rfl

@[simp] theorem State.withScanner_mem (s : State) (x : Scanner) : (s.withScanner x).mem = s.mem := rfl

@[simp] theorem State.withScanner_path (s : State) (x : Scanner) : (s.withScanner x).path = s.path := rfl

@[simp] theorem State.withScanner_engine (s : State) (x : Scanner) : (s.withScanner x).engine = s.engine := rfl

@[simp] theorem State.withScanner_notices (s : State) (x : Scanner) : (s.withScanner x).notices = s.notices := rfl

@[simp] theorem State.withScanner_marks (s : State) (x : Scanner) : (s.withScanner x).marks = s.marks := rfl

@[simp] theorem State.withScanner_stories (s : State) (x : Scanner) : (s.withScanner x).stories = s.stories := rfl

@[simp] theorem State.withScanner_baskets (s : State) (x : Scanner) : (s.withScanner x).baskets = s.baskets := rfl

@[simp] theorem State.withScanner_copyfit (s : State) (x : Scanner) : (s.withScanner x).copyfit = s.copyfit := rfl

@[simp] theorem State.withScanner_clock (s : State) (x : Scanner) : (s.withScanner x).clock = s.clock := rfl

@[simp] theorem State.withScanner_pages (s : State) (x : Scanner) : (s.withScanner x).pages = s.pages := rfl

@[simp] theorem State.withScanner_sendQueue (s : State) (x : Scanner) : (s.withScanner x).sendQueue = s.sendQueue := rfl

@[simp] theorem State.withScanner_link (s : State) (x : Scanner) : (s.withScanner x).link = s.link := rfl

@[simp] theorem State.withScanner_lines (s : State) (x : Scanner) : (s.withScanner x).lines = s.lines := rfl

@[simp] theorem State.withScanner_terms (s : State) (x : Scanner) : (s.withScanner x).terms = s.terms := rfl

@[simp] theorem State.withScanner_scanner (s : State) (x : Scanner) : (s.withScanner x).scanner = x := rfl

@[simp] theorem State.withScanner_free (s : State) (x : Scanner) : (s.withScanner x).free = s.free := rfl

@[simp] theorem State.withScanner_pending (s : State) (x : Scanner) : (s.withScanner x).pending = s.pending := rfl

theorem State.withFree_touches (s : State) (x : Nat) : Touches [.free] s (s.withFree x) :=
  ⟨fun r h => by cases r <;> first | rfl | exact absurd (List.mem_singleton.mpr rfl) h, .of_eq rfl⟩

@[simp] theorem State.withFree_pins (s : State) (x : Nat) : (s.withFree x).pins = s.pins := rfl

@[simp] theorem State.withFree_part (s : State) (x : Nat) : (s.withFree x).part = s.part := rfl

@[simp] theorem State.withFree_cause (s : State) (x : Nat) : (s.withFree x).cause = s.cause := rfl

@[simp] theorem State.withFree_base (s : State) (x : Nat) : (s.withFree x).base = s.base := rfl

@[simp] theorem State.withFree_mem (s : State) (x : Nat) : (s.withFree x).mem = s.mem := rfl

@[simp] theorem State.withFree_path (s : State) (x : Nat) : (s.withFree x).path = s.path := rfl

@[simp] theorem State.withFree_engine (s : State) (x : Nat) : (s.withFree x).engine = s.engine := rfl

@[simp] theorem State.withFree_notices (s : State) (x : Nat) : (s.withFree x).notices = s.notices := rfl

@[simp] theorem State.withFree_marks (s : State) (x : Nat) : (s.withFree x).marks = s.marks := rfl

@[simp] theorem State.withFree_stories (s : State) (x : Nat) : (s.withFree x).stories = s.stories := rfl

@[simp] theorem State.withFree_baskets (s : State) (x : Nat) : (s.withFree x).baskets = s.baskets := rfl

@[simp] theorem State.withFree_copyfit (s : State) (x : Nat) : (s.withFree x).copyfit = s.copyfit := rfl

@[simp] theorem State.withFree_clock (s : State) (x : Nat) : (s.withFree x).clock = s.clock := rfl

@[simp] theorem State.withFree_pages (s : State) (x : Nat) : (s.withFree x).pages = s.pages := rfl

@[simp] theorem State.withFree_sendQueue (s : State) (x : Nat) : (s.withFree x).sendQueue = s.sendQueue := rfl

@[simp] theorem State.withFree_link (s : State) (x : Nat) : (s.withFree x).link = s.link := rfl

@[simp] theorem State.withFree_lines (s : State) (x : Nat) : (s.withFree x).lines = s.lines := rfl

@[simp] theorem State.withFree_terms (s : State) (x : Nat) : (s.withFree x).terms = s.terms := rfl

@[simp] theorem State.withFree_scanner (s : State) (x : Nat) : (s.withFree x).scanner = s.scanner := rfl

@[simp] theorem State.withFree_free (s : State) (x : Nat) : (s.withFree x).free = x := rfl

@[simp] theorem State.withFree_pending (s : State) (x : Nat) : (s.withFree x).pending = s.pending := rfl

theorem State.withPending_touches (s : State) (x : List Instr) : Touches [.pending] s (s.withPending x) :=
  ⟨fun r h => by cases r <;> first | rfl | exact absurd (List.mem_singleton.mpr rfl) h, .of_eq rfl⟩

@[simp] theorem State.withPending_pins (s : State) (x : List Instr) : (s.withPending x).pins = s.pins := rfl

@[simp] theorem State.withPending_part (s : State) (x : List Instr) : (s.withPending x).part = s.part := rfl

@[simp] theorem State.withPending_cause (s : State) (x : List Instr) : (s.withPending x).cause = s.cause := rfl

@[simp] theorem State.withPending_base (s : State) (x : List Instr) : (s.withPending x).base = s.base := rfl

@[simp] theorem State.withPending_mem (s : State) (x : List Instr) : (s.withPending x).mem = s.mem := rfl

@[simp] theorem State.withPending_path (s : State) (x : List Instr) : (s.withPending x).path = s.path := rfl

@[simp] theorem State.withPending_engine (s : State) (x : List Instr) : (s.withPending x).engine = s.engine := rfl

@[simp] theorem State.withPending_notices (s : State) (x : List Instr) : (s.withPending x).notices = s.notices := rfl

@[simp] theorem State.withPending_marks (s : State) (x : List Instr) : (s.withPending x).marks = s.marks := rfl

@[simp] theorem State.withPending_stories (s : State) (x : List Instr) : (s.withPending x).stories = s.stories := rfl

@[simp] theorem State.withPending_baskets (s : State) (x : List Instr) : (s.withPending x).baskets = s.baskets := rfl

@[simp] theorem State.withPending_copyfit (s : State) (x : List Instr) : (s.withPending x).copyfit = s.copyfit := rfl

@[simp] theorem State.withPending_clock (s : State) (x : List Instr) : (s.withPending x).clock = s.clock := rfl

@[simp] theorem State.withPending_pages (s : State) (x : List Instr) : (s.withPending x).pages = s.pages := rfl

@[simp] theorem State.withPending_sendQueue (s : State) (x : List Instr) : (s.withPending x).sendQueue = s.sendQueue := rfl

@[simp] theorem State.withPending_link (s : State) (x : List Instr) : (s.withPending x).link = s.link := rfl

@[simp] theorem State.withPending_lines (s : State) (x : List Instr) : (s.withPending x).lines = s.lines := rfl

@[simp] theorem State.withPending_terms (s : State) (x : List Instr) : (s.withPending x).terms = s.terms := rfl

@[simp] theorem State.withPending_scanner (s : State) (x : List Instr) : (s.withPending x).scanner = s.scanner := rfl

@[simp] theorem State.withPending_free (s : State) (x : List Instr) : (s.withPending x).free = s.free := rfl

@[simp] theorem State.withPending_pending (s : State) (x : List Instr) : (s.withPending x).pending = x := rfl

theorem State.appendMarks_touches (s : State) (x : List MarkItem) : Touches [.marks] s (s.withMarks (s.marks ++ x)) :=
  ⟨fun r h => by cases r <;> first | rfl | exact absurd (List.mem_singleton.mpr rfl) h, ⟨x, rfl⟩⟩

theorem State.writeBytes_touches (s : State) (a : Nat) (bs : List Byte) : Touches [.mem] s (s.writeBytes a bs) :=
  State.withMem_touches s _

@[simp] theorem State.writeBytes_pins (s : State) (a : Nat) (bs : List Byte) : (s.writeBytes a bs).pins = s.pins :=
  (State.writeBytes_touches s a bs).1 .pins (by decide)

@[simp] theorem State.writeBytes_part (s : State) (a : Nat) (bs : List Byte) : (s.writeBytes a bs).part = s.part :=
  (State.writeBytes_touches s a bs).1 .part (by decide)

@[simp] theorem State.writeBytes_cause (s : State) (a : Nat) (bs : List Byte) : (s.writeBytes a bs).cause = s.cause :=
  (State.writeBytes_touches s a bs).1 .cause (by decide)

@[simp] theorem State.writeBytes_base (s : State) (a : Nat) (bs : List Byte) : (s.writeBytes a bs).base = s.base :=
  (State.writeBytes_touches s a bs).1 .base (by decide)

@[simp] theorem State.writeBytes_path (s : State) (a : Nat) (bs : List Byte) : (s.writeBytes a bs).path = s.path :=
  (State.writeBytes_touches s a bs).1 .path (by decide)

@[simp] theorem State.writeBytes_engine (s : State) (a : Nat) (bs : List Byte) : (s.writeBytes a bs).engine = s.engine :=
  (State.writeBytes_touches s a bs).1 .engine (by decide)

@[simp] theorem State.writeBytes_notices (s : State) (a : Nat) (bs : List Byte) : (s.writeBytes a bs).notices = s.notices :=
  (State.writeBytes_touches s a bs).1 .notices (by decide)

@[simp] theorem State.writeBytes_marks (s : State) (a : Nat) (bs : List Byte) : (s.writeBytes a bs).marks = s.marks :=
  (State.writeBytes_touches s a bs).1 .marks (by decide)

@[simp] theorem State.writeBytes_stories (s : State) (a : Nat) (bs : List Byte) : (s.writeBytes a bs).stories = s.stories :=
  (State.writeBytes_touches s a bs).1 .stories (by decide)

@[simp] theorem State.writeBytes_baskets (s : State) (a : Nat) (bs : List Byte) : (s.writeBytes a bs).baskets = s.baskets :=
  (State.writeBytes_touches s a bs).1 .baskets (by decide)

@[simp] theorem State.writeBytes_copyfit (s : State) (a : Nat) (bs : List Byte) : (s.writeBytes a bs).copyfit = s.copyfit :=
  (State.writeBytes_touches s a bs).1 .copyfit (by decide)

@[simp] theorem State.writeBytes_clock (s : State) (a : Nat) (bs : List Byte) : (s.writeBytes a bs).clock = s.clock :=
  (State.writeBytes_touches s a bs).1 .clock (by decide)

@[simp] theorem State.writeBytes_pages (s : State) (a : Nat) (bs : List Byte) : (s.writeBytes a bs).pages = s.pages :=
  (State.writeBytes_touches s a bs).1 .pages (by decide)

@[simp] theorem State.writeBytes_sendQueue (s : State) (a : Nat) (bs : List Byte) : (s.writeBytes a bs).sendQueue = s.sendQueue :=
  (State.writeBytes_touches s a bs).1 .sendQueue (by decide)

@[simp] theorem State.writeBytes_link (s : State) (a : Nat) (bs : List Byte) : (s.writeBytes a bs).link = s.link :=
  (State.writeBytes_touches s a bs).1 .link (by decide)

@[simp] theorem State.writeBytes_lines (s : State) (a : Nat) (bs : List Byte) : (s.writeBytes a bs).lines = s.lines :=
  (State.writeBytes_touches s a bs).1 .lines (by decide)

@[simp] theorem State.writeBytes_terms (s : State) (a : Nat) (bs : List Byte) : (s.writeBytes a bs).terms = s.terms :=
  (State.writeBytes_touches s a bs).1 .terms (by decide)

@[simp] theorem State.writeBytes_scanner (s : State) (a : Nat) (bs : List Byte) : (s.writeBytes a bs).scanner = s.scanner :=
  (State.writeBytes_touches s a bs).1 .scanner (by decide)

@[simp] theorem State.writeBytes_free (s : State) (a : Nat) (bs : List Byte) : (s.writeBytes a bs).free = s.free :=
  (State.writeBytes_touches s a bs).1 .free (by decide)

@[simp] theorem State.writeBytes_pending (s : State) (a : Nat) (bs : List Byte) : (s.writeBytes a bs).pending = s.pending :=
  (State.writeBytes_touches s a bs).1 .pending (by decide)

theorem State.mark_touches (s : State) (i : MarkItem) : Touches [.marks] s (s.mark i) :=
  by
  unfold State.mark
  split
  · exact Touches.refl _ s
  · exact State.appendMarks_touches s _

@[simp] theorem State.mark_pins (s : State) (i : MarkItem) : (s.mark i).pins = s.pins :=
  (State.mark_touches s i).1 .pins (by decide)

@[simp] theorem State.mark_part (s : State) (i : MarkItem) : (s.mark i).part = s.part :=
  (State.mark_touches s i).1 .part (by decide)

@[simp] theorem State.mark_cause (s : State) (i : MarkItem) : (s.mark i).cause = s.cause :=
  (State.mark_touches s i).1 .cause (by decide)

@[simp] theorem State.mark_base (s : State) (i : MarkItem) : (s.mark i).base = s.base :=
  (State.mark_touches s i).1 .base (by decide)

@[simp] theorem State.mark_mem (s : State) (i : MarkItem) : (s.mark i).mem = s.mem :=
  (State.mark_touches s i).1 .mem (by decide)

@[simp] theorem State.mark_path (s : State) (i : MarkItem) : (s.mark i).path = s.path :=
  (State.mark_touches s i).1 .path (by decide)

@[simp] theorem State.mark_engine (s : State) (i : MarkItem) : (s.mark i).engine = s.engine :=
  (State.mark_touches s i).1 .engine (by decide)

@[simp] theorem State.mark_notices (s : State) (i : MarkItem) : (s.mark i).notices = s.notices :=
  (State.mark_touches s i).1 .notices (by decide)

@[simp] theorem State.mark_stories (s : State) (i : MarkItem) : (s.mark i).stories = s.stories :=
  (State.mark_touches s i).1 .stories (by decide)

@[simp] theorem State.mark_baskets (s : State) (i : MarkItem) : (s.mark i).baskets = s.baskets :=
  (State.mark_touches s i).1 .baskets (by decide)

@[simp] theorem State.mark_copyfit (s : State) (i : MarkItem) : (s.mark i).copyfit = s.copyfit :=
  (State.mark_touches s i).1 .copyfit (by decide)

@[simp] theorem State.mark_clock (s : State) (i : MarkItem) : (s.mark i).clock = s.clock :=
  (State.mark_touches s i).1 .clock (by decide)

@[simp] theorem State.mark_pages (s : State) (i : MarkItem) : (s.mark i).pages = s.pages :=
  (State.mark_touches s i).1 .pages (by decide)

@[simp] theorem State.mark_sendQueue (s : State) (i : MarkItem) : (s.mark i).sendQueue = s.sendQueue :=
  (State.mark_touches s i).1 .sendQueue (by decide)

@[simp] theorem State.mark_link (s : State) (i : MarkItem) : (s.mark i).link = s.link :=
  (State.mark_touches s i).1 .link (by decide)

@[simp] theorem State.mark_lines (s : State) (i : MarkItem) : (s.mark i).lines = s.lines :=
  (State.mark_touches s i).1 .lines (by decide)

@[simp] theorem State.mark_terms (s : State) (i : MarkItem) : (s.mark i).terms = s.terms :=
  (State.mark_touches s i).1 .terms (by decide)

@[simp] theorem State.mark_scanner (s : State) (i : MarkItem) : (s.mark i).scanner = s.scanner :=
  (State.mark_touches s i).1 .scanner (by decide)

@[simp] theorem State.mark_free (s : State) (i : MarkItem) : (s.mark i).free = s.free :=
  (State.mark_touches s i).1 .free (by decide)

@[simp] theorem State.mark_pending (s : State) (i : MarkItem) : (s.mark i).pending = s.pending :=
  (State.mark_touches s i).1 .pending (by decide)

theorem State.markEach_touches (s : State) (l : List MarkItem) : Touches [.marks] s (s.markEach l) :=
  Touches.foldl (fun s i => s.mark_touches i) l s

@[simp] theorem State.markEach_pins (s : State) (l : List MarkItem) : (s.markEach l).pins = s.pins :=
  (State.markEach_touches s l).1 .pins (by decide)

@[simp] theorem State.markEach_part (s : State) (l : List MarkItem) : (s.markEach l).part = s.part :=
  (State.markEach_touches s l).1 .part (by decide)

@[simp] theorem State.markEach_cause (s : State) (l : List MarkItem) : (s.markEach l).cause = s.cause :=
  (State.markEach_touches s l).1 .cause (by decide)

@[simp] theorem State.markEach_base (s : State) (l : List MarkItem) : (s.markEach l).base = s.base :=
  (State.markEach_touches s l).1 .base (by decide)

@[simp] theorem State.markEach_mem (s : State) (l : List MarkItem) : (s.markEach l).mem = s.mem :=
  (State.markEach_touches s l).1 .mem (by decide)

@[simp] theorem State.markEach_path (s : State) (l : List MarkItem) : (s.markEach l).path = s.path :=
  (State.markEach_touches s l).1 .path (by decide)

@[simp] theorem State.markEach_engine (s : State) (l : List MarkItem) : (s.markEach l).engine = s.engine :=
  (State.markEach_touches s l).1 .engine (by decide)

@[simp] theorem State.markEach_notices (s : State) (l : List MarkItem) : (s.markEach l).notices = s.notices :=
  (State.markEach_touches s l).1 .notices (by decide)

@[simp] theorem State.markEach_stories (s : State) (l : List MarkItem) : (s.markEach l).stories = s.stories :=
  (State.markEach_touches s l).1 .stories (by decide)

@[simp] theorem State.markEach_baskets (s : State) (l : List MarkItem) : (s.markEach l).baskets = s.baskets :=
  (State.markEach_touches s l).1 .baskets (by decide)

@[simp] theorem State.markEach_copyfit (s : State) (l : List MarkItem) : (s.markEach l).copyfit = s.copyfit :=
  (State.markEach_touches s l).1 .copyfit (by decide)

@[simp] theorem State.markEach_clock (s : State) (l : List MarkItem) : (s.markEach l).clock = s.clock :=
  (State.markEach_touches s l).1 .clock (by decide)

@[simp] theorem State.markEach_pages (s : State) (l : List MarkItem) : (s.markEach l).pages = s.pages :=
  (State.markEach_touches s l).1 .pages (by decide)

@[simp] theorem State.markEach_sendQueue (s : State) (l : List MarkItem) : (s.markEach l).sendQueue = s.sendQueue :=
  (State.markEach_touches s l).1 .sendQueue (by decide)

@[simp] theorem State.markEach_link (s : State) (l : List MarkItem) : (s.markEach l).link = s.link :=
  (State.markEach_touches s l).1 .link (by decide)

@[simp] theorem State.markEach_lines (s : State) (l : List MarkItem) : (s.markEach l).lines = s.lines :=
  (State.markEach_touches s l).1 .lines (by decide)

@[simp] theorem State.markEach_terms (s : State) (l : List MarkItem) : (s.markEach l).terms = s.terms :=
  (State.markEach_touches s l).1 .terms (by decide)

@[simp] theorem State.markEach_scanner (s : State) (l : List MarkItem) : (s.markEach l).scanner = s.scanner :=
  (State.markEach_touches s l).1 .scanner (by decide)

@[simp] theorem State.markEach_free (s : State) (l : List MarkItem) : (s.markEach l).free = s.free :=
  (State.markEach_touches s l).1 .free (by decide)

@[simp] theorem State.markEach_pending (s : State) (l : List MarkItem) : (s.markEach l).pending = s.pending :=
  (State.markEach_touches s l).1 .pending (by decide)

theorem State.markAll_touches (s : State) : Touches [.marks] s (s.markAll) :=
  State.appendMarks_touches s _

@[simp] theorem State.markAll_pins (s : State) : (s.markAll).pins = s.pins :=
  (State.markAll_touches s).1 .pins (by decide)

@[simp] theorem State.markAll_part (s : State) : (s.markAll).part = s.part :=
  (State.markAll_touches s).1 .part (by decide)

@[simp] theorem State.markAll_cause (s : State) : (s.markAll).cause = s.cause :=
  (State.markAll_touches s).1 .cause (by decide)

@[simp] theorem State.markAll_base (s : State) : (s.markAll).base = s.base :=
  (State.markAll_touches s).1 .base (by decide)

@[simp] theorem State.markAll_mem (s : State) : (s.markAll).mem = s.mem :=
  (State.markAll_touches s).1 .mem (by decide)

@[simp] theorem State.markAll_path (s : State) : (s.markAll).path = s.path :=
  (State.markAll_touches s).1 .path (by decide)

@[simp] theorem State.markAll_engine (s : State) : (s.markAll).engine = s.engine :=
  (State.markAll_touches s).1 .engine (by decide)

@[simp] theorem State.markAll_notices (s : State) : (s.markAll).notices = s.notices :=
  (State.markAll_touches s).1 .notices (by decide)

@[simp] theorem State.markAll_stories (s : State) : (s.markAll).stories = s.stories :=
  (State.markAll_touches s).1 .stories (by decide)

@[simp] theorem State.markAll_baskets (s : State) : (s.markAll).baskets = s.baskets :=
  (State.markAll_touches s).1 .baskets (by decide)

@[simp] theorem State.markAll_copyfit (s : State) : (s.markAll).copyfit = s.copyfit :=
  (State.markAll_touches s).1 .copyfit (by decide)

@[simp] theorem State.markAll_clock (s : State) : (s.markAll).clock = s.clock :=
  (State.markAll_touches s).1 .clock (by decide)

@[simp] theorem State.markAll_pages (s : State) : (s.markAll).pages = s.pages :=
  (State.markAll_touches s).1 .pages (by decide)

@[simp] theorem State.markAll_sendQueue (s : State) : (s.markAll).sendQueue = s.sendQueue :=
  (State.markAll_touches s).1 .sendQueue (by decide)

@[simp] theorem State.markAll_link (s : State) : (s.markAll).link = s.link :=
  (State.markAll_touches s).1 .link (by decide)

@[simp] theorem State.markAll_lines (s : State) : (s.markAll).lines = s.lines :=
  (State.markAll_touches s).1 .lines (by decide)

@[simp] theorem State.markAll_terms (s : State) : (s.markAll).terms = s.terms :=
  (State.markAll_touches s).1 .terms (by decide)

@[simp] theorem State.markAll_scanner (s : State) : (s.markAll).scanner = s.scanner :=
  (State.markAll_touches s).1 .scanner (by decide)

@[simp] theorem State.markAll_free (s : State) : (s.markAll).free = s.free :=
  (State.markAll_touches s).1 .free (by decide)

@[simp] theorem State.markAll_pending (s : State) : (s.markAll).pending = s.pending :=
  (State.markAll_touches s).1 .pending (by decide)

theorem State.setStory_touches (s : State) (n : Nat) (r : Story) : Touches [.stories, .marks] s (s.setStory n r) :=
  by
  unfold State.setStory
  split
  · exact Touches.refl _ s
  · exact (State.withStories_touches s _).via ((State.mark_touches _ _).weaken)

@[simp] theorem State.setStory_pins (s : State) (n : Nat) (r : Story) : (s.setStory n r).pins = s.pins :=
  (State.setStory_touches s n r).1 .pins (by decide)

@[simp] theorem State.setStory_part (s : State) (n : Nat) (r : Story) : (s.setStory n r).part = s.part :=
  (State.setStory_touches s n r).1 .part (by decide)

@[simp] theorem State.setStory_cause (s : State) (n : Nat) (r : Story) : (s.setStory n r).cause = s.cause :=
  (State.setStory_touches s n r).1 .cause (by decide)

@[simp] theorem State.setStory_base (s : State) (n : Nat) (r : Story) : (s.setStory n r).base = s.base :=
  (State.setStory_touches s n r).1 .base (by decide)

@[simp] theorem State.setStory_mem (s : State) (n : Nat) (r : Story) : (s.setStory n r).mem = s.mem :=
  (State.setStory_touches s n r).1 .mem (by decide)

@[simp] theorem State.setStory_path (s : State) (n : Nat) (r : Story) : (s.setStory n r).path = s.path :=
  (State.setStory_touches s n r).1 .path (by decide)

@[simp] theorem State.setStory_engine (s : State) (n : Nat) (r : Story) : (s.setStory n r).engine = s.engine :=
  (State.setStory_touches s n r).1 .engine (by decide)

@[simp] theorem State.setStory_notices (s : State) (n : Nat) (r : Story) : (s.setStory n r).notices = s.notices :=
  (State.setStory_touches s n r).1 .notices (by decide)

@[simp] theorem State.setStory_baskets (s : State) (n : Nat) (r : Story) : (s.setStory n r).baskets = s.baskets :=
  (State.setStory_touches s n r).1 .baskets (by decide)

@[simp] theorem State.setStory_copyfit (s : State) (n : Nat) (r : Story) : (s.setStory n r).copyfit = s.copyfit :=
  (State.setStory_touches s n r).1 .copyfit (by decide)

@[simp] theorem State.setStory_clock (s : State) (n : Nat) (r : Story) : (s.setStory n r).clock = s.clock :=
  (State.setStory_touches s n r).1 .clock (by decide)

@[simp] theorem State.setStory_pages (s : State) (n : Nat) (r : Story) : (s.setStory n r).pages = s.pages :=
  (State.setStory_touches s n r).1 .pages (by decide)

@[simp] theorem State.setStory_sendQueue (s : State) (n : Nat) (r : Story) : (s.setStory n r).sendQueue = s.sendQueue :=
  (State.setStory_touches s n r).1 .sendQueue (by decide)

@[simp] theorem State.setStory_link (s : State) (n : Nat) (r : Story) : (s.setStory n r).link = s.link :=
  (State.setStory_touches s n r).1 .link (by decide)

@[simp] theorem State.setStory_lines (s : State) (n : Nat) (r : Story) : (s.setStory n r).lines = s.lines :=
  (State.setStory_touches s n r).1 .lines (by decide)

@[simp] theorem State.setStory_terms (s : State) (n : Nat) (r : Story) : (s.setStory n r).terms = s.terms :=
  (State.setStory_touches s n r).1 .terms (by decide)

@[simp] theorem State.setStory_scanner (s : State) (n : Nat) (r : Story) : (s.setStory n r).scanner = s.scanner :=
  (State.setStory_touches s n r).1 .scanner (by decide)

@[simp] theorem State.setStory_free (s : State) (n : Nat) (r : Story) : (s.setStory n r).free = s.free :=
  (State.setStory_touches s n r).1 .free (by decide)

@[simp] theorem State.setStory_pending (s : State) (n : Nat) (r : Story) : (s.setStory n r).pending = s.pending :=
  (State.setStory_touches s n r).1 .pending (by decide)

theorem State.setPage_touches (s : State) (p : Nat) (r : Page) : Touches [.pages, .marks] s (s.setPage p r) :=
  by
  unfold State.setPage
  split
  · exact Touches.refl _ s
  · exact (State.withPages_touches s _).via ((State.mark_touches _ _).weaken)

@[simp] theorem State.setPage_pins (s : State) (p : Nat) (r : Page) : (s.setPage p r).pins = s.pins :=
  (State.setPage_touches s p r).1 .pins (by decide)

@[simp] theorem State.setPage_part (s : State) (p : Nat) (r : Page) : (s.setPage p r).part = s.part :=
  (State.setPage_touches s p r).1 .part (by decide)

@[simp] theorem State.setPage_cause (s : State) (p : Nat) (r : Page) : (s.setPage p r).cause = s.cause :=
  (State.setPage_touches s p r).1 .cause (by decide)

@[simp] theorem State.setPage_base (s : State) (p : Nat) (r : Page) : (s.setPage p r).base = s.base :=
  (State.setPage_touches s p r).1 .base (by decide)

@[simp] theorem State.setPage_mem (s : State) (p : Nat) (r : Page) : (s.setPage p r).mem = s.mem :=
  (State.setPage_touches s p r).1 .mem (by decide)

@[simp] theorem State.setPage_path (s : State) (p : Nat) (r : Page) : (s.setPage p r).path = s.path :=
  (State.setPage_touches s p r).1 .path (by decide)

@[simp] theorem State.setPage_engine (s : State) (p : Nat) (r : Page) : (s.setPage p r).engine = s.engine :=
  (State.setPage_touches s p r).1 .engine (by decide)

@[simp] theorem State.setPage_notices (s : State) (p : Nat) (r : Page) : (s.setPage p r).notices = s.notices :=
  (State.setPage_touches s p r).1 .notices (by decide)

@[simp] theorem State.setPage_stories (s : State) (p : Nat) (r : Page) : (s.setPage p r).stories = s.stories :=
  (State.setPage_touches s p r).1 .stories (by decide)

@[simp] theorem State.setPage_baskets (s : State) (p : Nat) (r : Page) : (s.setPage p r).baskets = s.baskets :=
  (State.setPage_touches s p r).1 .baskets (by decide)

@[simp] theorem State.setPage_copyfit (s : State) (p : Nat) (r : Page) : (s.setPage p r).copyfit = s.copyfit :=
  (State.setPage_touches s p r).1 .copyfit (by decide)

@[simp] theorem State.setPage_clock (s : State) (p : Nat) (r : Page) : (s.setPage p r).clock = s.clock :=
  (State.setPage_touches s p r).1 .clock (by decide)

@[simp] theorem State.setPage_sendQueue (s : State) (p : Nat) (r : Page) : (s.setPage p r).sendQueue = s.sendQueue :=
  (State.setPage_touches s p r).1 .sendQueue (by decide)

@[simp] theorem State.setPage_link (s : State) (p : Nat) (r : Page) : (s.setPage p r).link = s.link :=
  (State.setPage_touches s p r).1 .link (by decide)

@[simp] theorem State.setPage_lines (s : State) (p : Nat) (r : Page) : (s.setPage p r).lines = s.lines :=
  (State.setPage_touches s p r).1 .lines (by decide)

@[simp] theorem State.setPage_terms (s : State) (p : Nat) (r : Page) : (s.setPage p r).terms = s.terms :=
  (State.setPage_touches s p r).1 .terms (by decide)

@[simp] theorem State.setPage_scanner (s : State) (p : Nat) (r : Page) : (s.setPage p r).scanner = s.scanner :=
  (State.setPage_touches s p r).1 .scanner (by decide)

@[simp] theorem State.setPage_free (s : State) (p : Nat) (r : Page) : (s.setPage p r).free = s.free :=
  (State.setPage_touches s p r).1 .free (by decide)

@[simp] theorem State.setPage_pending (s : State) (p : Nat) (r : Page) : (s.setPage p r).pending = s.pending :=
  (State.setPage_touches s p r).1 .pending (by decide)

theorem State.setSendQueue_touches (s : State) (q : List Nat) : Touches [.sendQueue, .marks] s (s.setSendQueue q) :=
  by
  unfold State.setSendQueue
  split
  · exact Touches.refl _ s
  · exact (State.withSendQueue_touches s _).via ((State.mark_touches _ _).weaken)

@[simp] theorem State.setSendQueue_pins (s : State) (q : List Nat) : (s.setSendQueue q).pins = s.pins :=
  (State.setSendQueue_touches s q).1 .pins (by decide)

@[simp] theorem State.setSendQueue_part (s : State) (q : List Nat) : (s.setSendQueue q).part = s.part :=
  (State.setSendQueue_touches s q).1 .part (by decide)

@[simp] theorem State.setSendQueue_cause (s : State) (q : List Nat) : (s.setSendQueue q).cause = s.cause :=
  (State.setSendQueue_touches s q).1 .cause (by decide)

@[simp] theorem State.setSendQueue_base (s : State) (q : List Nat) : (s.setSendQueue q).base = s.base :=
  (State.setSendQueue_touches s q).1 .base (by decide)

@[simp] theorem State.setSendQueue_mem (s : State) (q : List Nat) : (s.setSendQueue q).mem = s.mem :=
  (State.setSendQueue_touches s q).1 .mem (by decide)

@[simp] theorem State.setSendQueue_path (s : State) (q : List Nat) : (s.setSendQueue q).path = s.path :=
  (State.setSendQueue_touches s q).1 .path (by decide)

@[simp] theorem State.setSendQueue_engine (s : State) (q : List Nat) : (s.setSendQueue q).engine = s.engine :=
  (State.setSendQueue_touches s q).1 .engine (by decide)

@[simp] theorem State.setSendQueue_notices (s : State) (q : List Nat) : (s.setSendQueue q).notices = s.notices :=
  (State.setSendQueue_touches s q).1 .notices (by decide)

@[simp] theorem State.setSendQueue_stories (s : State) (q : List Nat) : (s.setSendQueue q).stories = s.stories :=
  (State.setSendQueue_touches s q).1 .stories (by decide)

@[simp] theorem State.setSendQueue_baskets (s : State) (q : List Nat) : (s.setSendQueue q).baskets = s.baskets :=
  (State.setSendQueue_touches s q).1 .baskets (by decide)

@[simp] theorem State.setSendQueue_copyfit (s : State) (q : List Nat) : (s.setSendQueue q).copyfit = s.copyfit :=
  (State.setSendQueue_touches s q).1 .copyfit (by decide)

@[simp] theorem State.setSendQueue_clock (s : State) (q : List Nat) : (s.setSendQueue q).clock = s.clock :=
  (State.setSendQueue_touches s q).1 .clock (by decide)

@[simp] theorem State.setSendQueue_pages (s : State) (q : List Nat) : (s.setSendQueue q).pages = s.pages :=
  (State.setSendQueue_touches s q).1 .pages (by decide)

@[simp] theorem State.setSendQueue_link (s : State) (q : List Nat) : (s.setSendQueue q).link = s.link :=
  (State.setSendQueue_touches s q).1 .link (by decide)

@[simp] theorem State.setSendQueue_lines (s : State) (q : List Nat) : (s.setSendQueue q).lines = s.lines :=
  (State.setSendQueue_touches s q).1 .lines (by decide)

@[simp] theorem State.setSendQueue_terms (s : State) (q : List Nat) : (s.setSendQueue q).terms = s.terms :=
  (State.setSendQueue_touches s q).1 .terms (by decide)

@[simp] theorem State.setSendQueue_scanner (s : State) (q : List Nat) : (s.setSendQueue q).scanner = s.scanner :=
  (State.setSendQueue_touches s q).1 .scanner (by decide)

@[simp] theorem State.setSendQueue_free (s : State) (q : List Nat) : (s.setSendQueue q).free = s.free :=
  (State.setSendQueue_touches s q).1 .free (by decide)

@[simp] theorem State.setSendQueue_pending (s : State) (q : List Nat) : (s.setSendQueue q).pending = s.pending :=
  (State.setSendQueue_touches s q).1 .pending (by decide)

theorem State.setEdition_touches (s : State) (e : Nat) (r : Edition) : Touches [.clock, .marks] s (s.setEdition e r) :=
  by
  unfold State.setEdition
  split
  · exact Touches.refl _ s
  · exact (State.withClock_touches s _).via ((State.mark_touches _ _).weaken)

@[simp] theorem State.setEdition_pins (s : State) (e : Nat) (r : Edition) : (s.setEdition e r).pins = s.pins :=
  (State.setEdition_touches s e r).1 .pins (by decide)

@[simp] theorem State.setEdition_part (s : State) (e : Nat) (r : Edition) : (s.setEdition e r).part = s.part :=
  (State.setEdition_touches s e r).1 .part (by decide)

@[simp] theorem State.setEdition_cause (s : State) (e : Nat) (r : Edition) : (s.setEdition e r).cause = s.cause :=
  (State.setEdition_touches s e r).1 .cause (by decide)

@[simp] theorem State.setEdition_base (s : State) (e : Nat) (r : Edition) : (s.setEdition e r).base = s.base :=
  (State.setEdition_touches s e r).1 .base (by decide)

@[simp] theorem State.setEdition_mem (s : State) (e : Nat) (r : Edition) : (s.setEdition e r).mem = s.mem :=
  (State.setEdition_touches s e r).1 .mem (by decide)

@[simp] theorem State.setEdition_path (s : State) (e : Nat) (r : Edition) : (s.setEdition e r).path = s.path :=
  (State.setEdition_touches s e r).1 .path (by decide)

@[simp] theorem State.setEdition_engine (s : State) (e : Nat) (r : Edition) : (s.setEdition e r).engine = s.engine :=
  (State.setEdition_touches s e r).1 .engine (by decide)

@[simp] theorem State.setEdition_notices (s : State) (e : Nat) (r : Edition) : (s.setEdition e r).notices = s.notices :=
  (State.setEdition_touches s e r).1 .notices (by decide)

@[simp] theorem State.setEdition_stories (s : State) (e : Nat) (r : Edition) : (s.setEdition e r).stories = s.stories :=
  (State.setEdition_touches s e r).1 .stories (by decide)

@[simp] theorem State.setEdition_baskets (s : State) (e : Nat) (r : Edition) : (s.setEdition e r).baskets = s.baskets :=
  (State.setEdition_touches s e r).1 .baskets (by decide)

@[simp] theorem State.setEdition_copyfit (s : State) (e : Nat) (r : Edition) : (s.setEdition e r).copyfit = s.copyfit :=
  (State.setEdition_touches s e r).1 .copyfit (by decide)

@[simp] theorem State.setEdition_pages (s : State) (e : Nat) (r : Edition) : (s.setEdition e r).pages = s.pages :=
  (State.setEdition_touches s e r).1 .pages (by decide)

@[simp] theorem State.setEdition_sendQueue (s : State) (e : Nat) (r : Edition) : (s.setEdition e r).sendQueue = s.sendQueue :=
  (State.setEdition_touches s e r).1 .sendQueue (by decide)

@[simp] theorem State.setEdition_link (s : State) (e : Nat) (r : Edition) : (s.setEdition e r).link = s.link :=
  (State.setEdition_touches s e r).1 .link (by decide)

@[simp] theorem State.setEdition_lines (s : State) (e : Nat) (r : Edition) : (s.setEdition e r).lines = s.lines :=
  (State.setEdition_touches s e r).1 .lines (by decide)

@[simp] theorem State.setEdition_terms (s : State) (e : Nat) (r : Edition) : (s.setEdition e r).terms = s.terms :=
  (State.setEdition_touches s e r).1 .terms (by decide)

@[simp] theorem State.setEdition_scanner (s : State) (e : Nat) (r : Edition) : (s.setEdition e r).scanner = s.scanner :=
  (State.setEdition_touches s e r).1 .scanner (by decide)

@[simp] theorem State.setEdition_free (s : State) (e : Nat) (r : Edition) : (s.setEdition e r).free = s.free :=
  (State.setEdition_touches s e r).1 .free (by decide)

@[simp] theorem State.setEdition_pending (s : State) (e : Nat) (r : Edition) : (s.setEdition e r).pending = s.pending :=
  (State.setEdition_touches s e r).1 .pending (by decide)

theorem State.setLink_touches (s : State) (l : Link) : Touches [.link, .marks] s (s.setLink l) :=
  by
  unfold State.setLink
  split
  · exact (State.withLink_touches s l).weaken
  · exact (State.withLink_touches s l).via ((State.mark_touches _ _).weaken)

@[simp] theorem State.setLink_pins (s : State) (l : Link) : (s.setLink l).pins = s.pins :=
  (State.setLink_touches s l).1 .pins (by decide)

@[simp] theorem State.setLink_part (s : State) (l : Link) : (s.setLink l).part = s.part :=
  (State.setLink_touches s l).1 .part (by decide)

@[simp] theorem State.setLink_cause (s : State) (l : Link) : (s.setLink l).cause = s.cause :=
  (State.setLink_touches s l).1 .cause (by decide)

@[simp] theorem State.setLink_base (s : State) (l : Link) : (s.setLink l).base = s.base :=
  (State.setLink_touches s l).1 .base (by decide)

@[simp] theorem State.setLink_mem (s : State) (l : Link) : (s.setLink l).mem = s.mem :=
  (State.setLink_touches s l).1 .mem (by decide)

@[simp] theorem State.setLink_path (s : State) (l : Link) : (s.setLink l).path = s.path :=
  (State.setLink_touches s l).1 .path (by decide)

@[simp] theorem State.setLink_engine (s : State) (l : Link) : (s.setLink l).engine = s.engine :=
  (State.setLink_touches s l).1 .engine (by decide)

@[simp] theorem State.setLink_notices (s : State) (l : Link) : (s.setLink l).notices = s.notices :=
  (State.setLink_touches s l).1 .notices (by decide)

@[simp] theorem State.setLink_stories (s : State) (l : Link) : (s.setLink l).stories = s.stories :=
  (State.setLink_touches s l).1 .stories (by decide)

@[simp] theorem State.setLink_baskets (s : State) (l : Link) : (s.setLink l).baskets = s.baskets :=
  (State.setLink_touches s l).1 .baskets (by decide)

@[simp] theorem State.setLink_copyfit (s : State) (l : Link) : (s.setLink l).copyfit = s.copyfit :=
  (State.setLink_touches s l).1 .copyfit (by decide)

@[simp] theorem State.setLink_clock (s : State) (l : Link) : (s.setLink l).clock = s.clock :=
  (State.setLink_touches s l).1 .clock (by decide)

@[simp] theorem State.setLink_pages (s : State) (l : Link) : (s.setLink l).pages = s.pages :=
  (State.setLink_touches s l).1 .pages (by decide)

@[simp] theorem State.setLink_sendQueue (s : State) (l : Link) : (s.setLink l).sendQueue = s.sendQueue :=
  (State.setLink_touches s l).1 .sendQueue (by decide)

@[simp] theorem State.setLink_lines (s : State) (l : Link) : (s.setLink l).lines = s.lines :=
  (State.setLink_touches s l).1 .lines (by decide)

@[simp] theorem State.setLink_terms (s : State) (l : Link) : (s.setLink l).terms = s.terms :=
  (State.setLink_touches s l).1 .terms (by decide)

@[simp] theorem State.setLink_scanner (s : State) (l : Link) : (s.setLink l).scanner = s.scanner :=
  (State.setLink_touches s l).1 .scanner (by decide)

@[simp] theorem State.setLink_free (s : State) (l : Link) : (s.setLink l).free = s.free :=
  (State.setLink_touches s l).1 .free (by decide)

@[simp] theorem State.setLink_pending (s : State) (l : Link) : (s.setLink l).pending = s.pending :=
  (State.setLink_touches s l).1 .pending (by decide)

theorem State.setLine_touches (s : State) (n : Nat) (l : Line) : Touches [.lines, .marks] s (s.setLine n l) :=
  by
  unfold State.setLine
  simp only
  split
  · exact (State.withLines_touches s _).weaken
  · exact (State.withLines_touches s _).via ((State.mark_touches _ _).weaken)

@[simp] theorem State.setLine_pins (s : State) (n : Nat) (l : Line) : (s.setLine n l).pins = s.pins :=
  (State.setLine_touches s n l).1 .pins (by decide)

@[simp] theorem State.setLine_part (s : State) (n : Nat) (l : Line) : (s.setLine n l).part = s.part :=
  (State.setLine_touches s n l).1 .part (by decide)

@[simp] theorem State.setLine_cause (s : State) (n : Nat) (l : Line) : (s.setLine n l).cause = s.cause :=
  (State.setLine_touches s n l).1 .cause (by decide)

@[simp] theorem State.setLine_base (s : State) (n : Nat) (l : Line) : (s.setLine n l).base = s.base :=
  (State.setLine_touches s n l).1 .base (by decide)

@[simp] theorem State.setLine_mem (s : State) (n : Nat) (l : Line) : (s.setLine n l).mem = s.mem :=
  (State.setLine_touches s n l).1 .mem (by decide)

@[simp] theorem State.setLine_path (s : State) (n : Nat) (l : Line) : (s.setLine n l).path = s.path :=
  (State.setLine_touches s n l).1 .path (by decide)

@[simp] theorem State.setLine_engine (s : State) (n : Nat) (l : Line) : (s.setLine n l).engine = s.engine :=
  (State.setLine_touches s n l).1 .engine (by decide)

@[simp] theorem State.setLine_notices (s : State) (n : Nat) (l : Line) : (s.setLine n l).notices = s.notices :=
  (State.setLine_touches s n l).1 .notices (by decide)

@[simp] theorem State.setLine_stories (s : State) (n : Nat) (l : Line) : (s.setLine n l).stories = s.stories :=
  (State.setLine_touches s n l).1 .stories (by decide)

@[simp] theorem State.setLine_baskets (s : State) (n : Nat) (l : Line) : (s.setLine n l).baskets = s.baskets :=
  (State.setLine_touches s n l).1 .baskets (by decide)

@[simp] theorem State.setLine_copyfit (s : State) (n : Nat) (l : Line) : (s.setLine n l).copyfit = s.copyfit :=
  (State.setLine_touches s n l).1 .copyfit (by decide)

@[simp] theorem State.setLine_clock (s : State) (n : Nat) (l : Line) : (s.setLine n l).clock = s.clock :=
  (State.setLine_touches s n l).1 .clock (by decide)

@[simp] theorem State.setLine_pages (s : State) (n : Nat) (l : Line) : (s.setLine n l).pages = s.pages :=
  (State.setLine_touches s n l).1 .pages (by decide)

@[simp] theorem State.setLine_sendQueue (s : State) (n : Nat) (l : Line) : (s.setLine n l).sendQueue = s.sendQueue :=
  (State.setLine_touches s n l).1 .sendQueue (by decide)

@[simp] theorem State.setLine_link (s : State) (n : Nat) (l : Line) : (s.setLine n l).link = s.link :=
  (State.setLine_touches s n l).1 .link (by decide)

@[simp] theorem State.setLine_terms (s : State) (n : Nat) (l : Line) : (s.setLine n l).terms = s.terms :=
  (State.setLine_touches s n l).1 .terms (by decide)

@[simp] theorem State.setLine_scanner (s : State) (n : Nat) (l : Line) : (s.setLine n l).scanner = s.scanner :=
  (State.setLine_touches s n l).1 .scanner (by decide)

@[simp] theorem State.setLine_free (s : State) (n : Nat) (l : Line) : (s.setLine n l).free = s.free :=
  (State.setLine_touches s n l).1 .free (by decide)

@[simp] theorem State.setLine_pending (s : State) (n : Nat) (l : Line) : (s.setLine n l).pending = s.pending :=
  (State.setLine_touches s n l).1 .pending (by decide)

theorem State.setTerm_touches (s : State) (t : Nat) (r : Terminal) : Touches [.terms, .marks] s (s.setTerm t r) :=
  by
  unfold State.setTerm
  simp only
  split
  · exact (State.withTerms_touches s _).weaken
  · exact (State.withTerms_touches s _).via ((State.mark_touches _ _).weaken)

@[simp] theorem State.setTerm_pins (s : State) (t : Nat) (r : Terminal) : (s.setTerm t r).pins = s.pins :=
  (State.setTerm_touches s t r).1 .pins (by decide)

@[simp] theorem State.setTerm_part (s : State) (t : Nat) (r : Terminal) : (s.setTerm t r).part = s.part :=
  (State.setTerm_touches s t r).1 .part (by decide)

@[simp] theorem State.setTerm_cause (s : State) (t : Nat) (r : Terminal) : (s.setTerm t r).cause = s.cause :=
  (State.setTerm_touches s t r).1 .cause (by decide)

@[simp] theorem State.setTerm_base (s : State) (t : Nat) (r : Terminal) : (s.setTerm t r).base = s.base :=
  (State.setTerm_touches s t r).1 .base (by decide)

@[simp] theorem State.setTerm_mem (s : State) (t : Nat) (r : Terminal) : (s.setTerm t r).mem = s.mem :=
  (State.setTerm_touches s t r).1 .mem (by decide)

@[simp] theorem State.setTerm_path (s : State) (t : Nat) (r : Terminal) : (s.setTerm t r).path = s.path :=
  (State.setTerm_touches s t r).1 .path (by decide)

@[simp] theorem State.setTerm_engine (s : State) (t : Nat) (r : Terminal) : (s.setTerm t r).engine = s.engine :=
  (State.setTerm_touches s t r).1 .engine (by decide)

@[simp] theorem State.setTerm_notices (s : State) (t : Nat) (r : Terminal) : (s.setTerm t r).notices = s.notices :=
  (State.setTerm_touches s t r).1 .notices (by decide)

@[simp] theorem State.setTerm_stories (s : State) (t : Nat) (r : Terminal) : (s.setTerm t r).stories = s.stories :=
  (State.setTerm_touches s t r).1 .stories (by decide)

@[simp] theorem State.setTerm_baskets (s : State) (t : Nat) (r : Terminal) : (s.setTerm t r).baskets = s.baskets :=
  (State.setTerm_touches s t r).1 .baskets (by decide)

@[simp] theorem State.setTerm_copyfit (s : State) (t : Nat) (r : Terminal) : (s.setTerm t r).copyfit = s.copyfit :=
  (State.setTerm_touches s t r).1 .copyfit (by decide)

@[simp] theorem State.setTerm_clock (s : State) (t : Nat) (r : Terminal) : (s.setTerm t r).clock = s.clock :=
  (State.setTerm_touches s t r).1 .clock (by decide)

@[simp] theorem State.setTerm_pages (s : State) (t : Nat) (r : Terminal) : (s.setTerm t r).pages = s.pages :=
  (State.setTerm_touches s t r).1 .pages (by decide)

@[simp] theorem State.setTerm_sendQueue (s : State) (t : Nat) (r : Terminal) : (s.setTerm t r).sendQueue = s.sendQueue :=
  (State.setTerm_touches s t r).1 .sendQueue (by decide)

@[simp] theorem State.setTerm_link (s : State) (t : Nat) (r : Terminal) : (s.setTerm t r).link = s.link :=
  (State.setTerm_touches s t r).1 .link (by decide)

@[simp] theorem State.setTerm_lines (s : State) (t : Nat) (r : Terminal) : (s.setTerm t r).lines = s.lines :=
  (State.setTerm_touches s t r).1 .lines (by decide)

@[simp] theorem State.setTerm_scanner (s : State) (t : Nat) (r : Terminal) : (s.setTerm t r).scanner = s.scanner :=
  (State.setTerm_touches s t r).1 .scanner (by decide)

@[simp] theorem State.setTerm_free (s : State) (t : Nat) (r : Terminal) : (s.setTerm t r).free = s.free :=
  (State.setTerm_touches s t r).1 .free (by decide)

@[simp] theorem State.setTerm_pending (s : State) (t : Nat) (r : Terminal) : (s.setTerm t r).pending = s.pending :=
  (State.setTerm_touches s t r).1 .pending (by decide)

theorem State.markDirty_touches (s : State) (t r : Nat) : Touches [.terms, .marks] s (s.markDirty t r) :=
  s.setTerm_touches t _

@[simp] theorem State.markDirty_pins (s : State) (t r : Nat) : (s.markDirty t r).pins = s.pins :=
  (State.markDirty_touches s t r).1 .pins (by decide)

@[simp] theorem State.markDirty_part (s : State) (t r : Nat) : (s.markDirty t r).part = s.part :=
  (State.markDirty_touches s t r).1 .part (by decide)

@[simp] theorem State.markDirty_cause (s : State) (t r : Nat) : (s.markDirty t r).cause = s.cause :=
  (State.markDirty_touches s t r).1 .cause (by decide)

@[simp] theorem State.markDirty_base (s : State) (t r : Nat) : (s.markDirty t r).base = s.base :=
  (State.markDirty_touches s t r).1 .base (by decide)

@[simp] theorem State.markDirty_mem (s : State) (t r : Nat) : (s.markDirty t r).mem = s.mem :=
  (State.markDirty_touches s t r).1 .mem (by decide)

@[simp] theorem State.markDirty_path (s : State) (t r : Nat) : (s.markDirty t r).path = s.path :=
  (State.markDirty_touches s t r).1 .path (by decide)

@[simp] theorem State.markDirty_engine (s : State) (t r : Nat) : (s.markDirty t r).engine = s.engine :=
  (State.markDirty_touches s t r).1 .engine (by decide)

@[simp] theorem State.markDirty_notices (s : State) (t r : Nat) : (s.markDirty t r).notices = s.notices :=
  (State.markDirty_touches s t r).1 .notices (by decide)

@[simp] theorem State.markDirty_stories (s : State) (t r : Nat) : (s.markDirty t r).stories = s.stories :=
  (State.markDirty_touches s t r).1 .stories (by decide)

@[simp] theorem State.markDirty_baskets (s : State) (t r : Nat) : (s.markDirty t r).baskets = s.baskets :=
  (State.markDirty_touches s t r).1 .baskets (by decide)

@[simp] theorem State.markDirty_copyfit (s : State) (t r : Nat) : (s.markDirty t r).copyfit = s.copyfit :=
  (State.markDirty_touches s t r).1 .copyfit (by decide)

@[simp] theorem State.markDirty_clock (s : State) (t r : Nat) : (s.markDirty t r).clock = s.clock :=
  (State.markDirty_touches s t r).1 .clock (by decide)

@[simp] theorem State.markDirty_pages (s : State) (t r : Nat) : (s.markDirty t r).pages = s.pages :=
  (State.markDirty_touches s t r).1 .pages (by decide)

@[simp] theorem State.markDirty_sendQueue (s : State) (t r : Nat) : (s.markDirty t r).sendQueue = s.sendQueue :=
  (State.markDirty_touches s t r).1 .sendQueue (by decide)

@[simp] theorem State.markDirty_link (s : State) (t r : Nat) : (s.markDirty t r).link = s.link :=
  (State.markDirty_touches s t r).1 .link (by decide)

@[simp] theorem State.markDirty_lines (s : State) (t r : Nat) : (s.markDirty t r).lines = s.lines :=
  (State.markDirty_touches s t r).1 .lines (by decide)

@[simp] theorem State.markDirty_scanner (s : State) (t r : Nat) : (s.markDirty t r).scanner = s.scanner :=
  (State.markDirty_touches s t r).1 .scanner (by decide)

@[simp] theorem State.markDirty_free (s : State) (t r : Nat) : (s.markDirty t r).free = s.free :=
  (State.markDirty_touches s t r).1 .free (by decide)

@[simp] theorem State.markDirty_pending (s : State) (t r : Nat) : (s.markDirty t r).pending = s.pending :=
  (State.markDirty_touches s t r).1 .pending (by decide)

theorem State.markAllDirty_touches (s : State) (t : Nat) : Touches [.terms, .marks] s (s.markAllDirty t) :=
  s.setTerm_touches t _

@[simp] theorem State.markAllDirty_pins (s : State) (t : Nat) : (s.markAllDirty t).pins = s.pins :=
  (State.markAllDirty_touches s t).1 .pins (by decide)

@[simp] theorem State.markAllDirty_part (s : State) (t : Nat) : (s.markAllDirty t).part = s.part :=
  (State.markAllDirty_touches s t).1 .part (by decide)

@[simp] theorem State.markAllDirty_cause (s : State) (t : Nat) : (s.markAllDirty t).cause = s.cause :=
  (State.markAllDirty_touches s t).1 .cause (by decide)

@[simp] theorem State.markAllDirty_base (s : State) (t : Nat) : (s.markAllDirty t).base = s.base :=
  (State.markAllDirty_touches s t).1 .base (by decide)

@[simp] theorem State.markAllDirty_mem (s : State) (t : Nat) : (s.markAllDirty t).mem = s.mem :=
  (State.markAllDirty_touches s t).1 .mem (by decide)

@[simp] theorem State.markAllDirty_path (s : State) (t : Nat) : (s.markAllDirty t).path = s.path :=
  (State.markAllDirty_touches s t).1 .path (by decide)

@[simp] theorem State.markAllDirty_engine (s : State) (t : Nat) : (s.markAllDirty t).engine = s.engine :=
  (State.markAllDirty_touches s t).1 .engine (by decide)

@[simp] theorem State.markAllDirty_notices (s : State) (t : Nat) : (s.markAllDirty t).notices = s.notices :=
  (State.markAllDirty_touches s t).1 .notices (by decide)

@[simp] theorem State.markAllDirty_stories (s : State) (t : Nat) : (s.markAllDirty t).stories = s.stories :=
  (State.markAllDirty_touches s t).1 .stories (by decide)

@[simp] theorem State.markAllDirty_baskets (s : State) (t : Nat) : (s.markAllDirty t).baskets = s.baskets :=
  (State.markAllDirty_touches s t).1 .baskets (by decide)

@[simp] theorem State.markAllDirty_copyfit (s : State) (t : Nat) : (s.markAllDirty t).copyfit = s.copyfit :=
  (State.markAllDirty_touches s t).1 .copyfit (by decide)

@[simp] theorem State.markAllDirty_clock (s : State) (t : Nat) : (s.markAllDirty t).clock = s.clock :=
  (State.markAllDirty_touches s t).1 .clock (by decide)

@[simp] theorem State.markAllDirty_pages (s : State) (t : Nat) : (s.markAllDirty t).pages = s.pages :=
  (State.markAllDirty_touches s t).1 .pages (by decide)

@[simp] theorem State.markAllDirty_sendQueue (s : State) (t : Nat) : (s.markAllDirty t).sendQueue = s.sendQueue :=
  (State.markAllDirty_touches s t).1 .sendQueue (by decide)

@[simp] theorem State.markAllDirty_link (s : State) (t : Nat) : (s.markAllDirty t).link = s.link :=
  (State.markAllDirty_touches s t).1 .link (by decide)

@[simp] theorem State.markAllDirty_lines (s : State) (t : Nat) : (s.markAllDirty t).lines = s.lines :=
  (State.markAllDirty_touches s t).1 .lines (by decide)

@[simp] theorem State.markAllDirty_scanner (s : State) (t : Nat) : (s.markAllDirty t).scanner = s.scanner :=
  (State.markAllDirty_touches s t).1 .scanner (by decide)

@[simp] theorem State.markAllDirty_free (s : State) (t : Nat) : (s.markAllDirty t).free = s.free :=
  (State.markAllDirty_touches s t).1 .free (by decide)

@[simp] theorem State.markAllDirty_pending (s : State) (t : Nat) : (s.markAllDirty t).pending = s.pending :=
  (State.markAllDirty_touches s t).1 .pending (by decide)

theorem State.notify_touches (s : State) (n : Notice) : Touches [.notices] s (s.notify n) :=
  by
  unfold State.notify
  split
  · exact State.withNotices_touches s _
  · exact State.withNotices_touches s _

@[simp] theorem State.notify_pins (s : State) (n : Notice) : (s.notify n).pins = s.pins :=
  (State.notify_touches s n).1 .pins (by decide)

@[simp] theorem State.notify_part (s : State) (n : Notice) : (s.notify n).part = s.part :=
  (State.notify_touches s n).1 .part (by decide)

@[simp] theorem State.notify_cause (s : State) (n : Notice) : (s.notify n).cause = s.cause :=
  (State.notify_touches s n).1 .cause (by decide)

@[simp] theorem State.notify_base (s : State) (n : Notice) : (s.notify n).base = s.base :=
  (State.notify_touches s n).1 .base (by decide)

@[simp] theorem State.notify_mem (s : State) (n : Notice) : (s.notify n).mem = s.mem :=
  (State.notify_touches s n).1 .mem (by decide)

@[simp] theorem State.notify_path (s : State) (n : Notice) : (s.notify n).path = s.path :=
  (State.notify_touches s n).1 .path (by decide)

@[simp] theorem State.notify_engine (s : State) (n : Notice) : (s.notify n).engine = s.engine :=
  (State.notify_touches s n).1 .engine (by decide)

@[simp] theorem State.notify_marks (s : State) (n : Notice) : (s.notify n).marks = s.marks :=
  (State.notify_touches s n).1 .marks (by decide)

@[simp] theorem State.notify_stories (s : State) (n : Notice) : (s.notify n).stories = s.stories :=
  (State.notify_touches s n).1 .stories (by decide)

@[simp] theorem State.notify_baskets (s : State) (n : Notice) : (s.notify n).baskets = s.baskets :=
  (State.notify_touches s n).1 .baskets (by decide)

@[simp] theorem State.notify_copyfit (s : State) (n : Notice) : (s.notify n).copyfit = s.copyfit :=
  (State.notify_touches s n).1 .copyfit (by decide)

@[simp] theorem State.notify_clock (s : State) (n : Notice) : (s.notify n).clock = s.clock :=
  (State.notify_touches s n).1 .clock (by decide)

@[simp] theorem State.notify_pages (s : State) (n : Notice) : (s.notify n).pages = s.pages :=
  (State.notify_touches s n).1 .pages (by decide)

@[simp] theorem State.notify_sendQueue (s : State) (n : Notice) : (s.notify n).sendQueue = s.sendQueue :=
  (State.notify_touches s n).1 .sendQueue (by decide)

@[simp] theorem State.notify_link (s : State) (n : Notice) : (s.notify n).link = s.link :=
  (State.notify_touches s n).1 .link (by decide)

@[simp] theorem State.notify_lines (s : State) (n : Notice) : (s.notify n).lines = s.lines :=
  (State.notify_touches s n).1 .lines (by decide)

@[simp] theorem State.notify_terms (s : State) (n : Notice) : (s.notify n).terms = s.terms :=
  (State.notify_touches s n).1 .terms (by decide)

@[simp] theorem State.notify_scanner (s : State) (n : Notice) : (s.notify n).scanner = s.scanner :=
  (State.notify_touches s n).1 .scanner (by decide)

@[simp] theorem State.notify_free (s : State) (n : Notice) : (s.notify n).free = s.free :=
  (State.notify_touches s n).1 .free (by decide)

@[simp] theorem State.notify_pending (s : State) (n : Notice) : (s.notify n).pending = s.pending :=
  (State.notify_touches s n).1 .pending (by decide)

theorem State.driveAttn_touches (s : State) : Touches [.pins] s (s.driveAttn) :=
  State.withPins_touches s _

@[simp] theorem State.driveAttn_part (s : State) : (s.driveAttn).part = s.part :=
  (State.driveAttn_touches s).1 .part (by decide)

@[simp] theorem State.driveAttn_cause (s : State) : (s.driveAttn).cause = s.cause :=
  (State.driveAttn_touches s).1 .cause (by decide)

@[simp] theorem State.driveAttn_base (s : State) : (s.driveAttn).base = s.base :=
  (State.driveAttn_touches s).1 .base (by decide)

@[simp] theorem State.driveAttn_mem (s : State) : (s.driveAttn).mem = s.mem :=
  (State.driveAttn_touches s).1 .mem (by decide)

@[simp] theorem State.driveAttn_path (s : State) : (s.driveAttn).path = s.path :=
  (State.driveAttn_touches s).1 .path (by decide)

@[simp] theorem State.driveAttn_engine (s : State) : (s.driveAttn).engine = s.engine :=
  (State.driveAttn_touches s).1 .engine (by decide)

@[simp] theorem State.driveAttn_notices (s : State) : (s.driveAttn).notices = s.notices :=
  (State.driveAttn_touches s).1 .notices (by decide)

@[simp] theorem State.driveAttn_marks (s : State) : (s.driveAttn).marks = s.marks :=
  (State.driveAttn_touches s).1 .marks (by decide)

@[simp] theorem State.driveAttn_stories (s : State) : (s.driveAttn).stories = s.stories :=
  (State.driveAttn_touches s).1 .stories (by decide)

@[simp] theorem State.driveAttn_baskets (s : State) : (s.driveAttn).baskets = s.baskets :=
  (State.driveAttn_touches s).1 .baskets (by decide)

@[simp] theorem State.driveAttn_copyfit (s : State) : (s.driveAttn).copyfit = s.copyfit :=
  (State.driveAttn_touches s).1 .copyfit (by decide)

@[simp] theorem State.driveAttn_clock (s : State) : (s.driveAttn).clock = s.clock :=
  (State.driveAttn_touches s).1 .clock (by decide)

@[simp] theorem State.driveAttn_pages (s : State) : (s.driveAttn).pages = s.pages :=
  (State.driveAttn_touches s).1 .pages (by decide)

@[simp] theorem State.driveAttn_sendQueue (s : State) : (s.driveAttn).sendQueue = s.sendQueue :=
  (State.driveAttn_touches s).1 .sendQueue (by decide)

@[simp] theorem State.driveAttn_link (s : State) : (s.driveAttn).link = s.link :=
  (State.driveAttn_touches s).1 .link (by decide)

@[simp] theorem State.driveAttn_lines (s : State) : (s.driveAttn).lines = s.lines :=
  (State.driveAttn_touches s).1 .lines (by decide)

@[simp] theorem State.driveAttn_terms (s : State) : (s.driveAttn).terms = s.terms :=
  (State.driveAttn_touches s).1 .terms (by decide)

@[simp] theorem State.driveAttn_scanner (s : State) : (s.driveAttn).scanner = s.scanner :=
  (State.driveAttn_touches s).1 .scanner (by decide)

@[simp] theorem State.driveAttn_free (s : State) : (s.driveAttn).free = s.free :=
  (State.driveAttn_touches s).1 .free (by decide)

@[simp] theorem State.driveAttn_pending (s : State) : (s.driveAttn).pending = s.pending :=
  (State.driveAttn_touches s).1 .pending (by decide)

theorem State.announceDrain_touches (s : State) (q : Nat) : Touches [.copyfit, .link] s (s.announceDrain q) :=
  ⟨fun r h => by cases r <;> first | rfl | exact absurd (by decide) h, .of_eq rfl⟩

@[simp] theorem State.announceDrain_pins (s : State) (q : Nat) : (s.announceDrain q).pins = s.pins :=
  (State.announceDrain_touches s q).1 .pins (by decide)

@[simp] theorem State.announceDrain_part (s : State) (q : Nat) : (s.announceDrain q).part = s.part :=
  (State.announceDrain_touches s q).1 .part (by decide)

@[simp] theorem State.announceDrain_cause (s : State) (q : Nat) : (s.announceDrain q).cause = s.cause :=
  (State.announceDrain_touches s q).1 .cause (by decide)

@[simp] theorem State.announceDrain_base (s : State) (q : Nat) : (s.announceDrain q).base = s.base :=
  (State.announceDrain_touches s q).1 .base (by decide)

@[simp] theorem State.announceDrain_mem (s : State) (q : Nat) : (s.announceDrain q).mem = s.mem :=
  (State.announceDrain_touches s q).1 .mem (by decide)

@[simp] theorem State.announceDrain_path (s : State) (q : Nat) : (s.announceDrain q).path = s.path :=
  (State.announceDrain_touches s q).1 .path (by decide)

@[simp] theorem State.announceDrain_engine (s : State) (q : Nat) : (s.announceDrain q).engine = s.engine :=
  (State.announceDrain_touches s q).1 .engine (by decide)

@[simp] theorem State.announceDrain_notices (s : State) (q : Nat) : (s.announceDrain q).notices = s.notices :=
  (State.announceDrain_touches s q).1 .notices (by decide)

@[simp] theorem State.announceDrain_marks (s : State) (q : Nat) : (s.announceDrain q).marks = s.marks :=
  (State.announceDrain_touches s q).1 .marks (by decide)

@[simp] theorem State.announceDrain_stories (s : State) (q : Nat) : (s.announceDrain q).stories = s.stories :=
  (State.announceDrain_touches s q).1 .stories (by decide)

@[simp] theorem State.announceDrain_baskets (s : State) (q : Nat) : (s.announceDrain q).baskets = s.baskets :=
  (State.announceDrain_touches s q).1 .baskets (by decide)

@[simp] theorem State.announceDrain_clock (s : State) (q : Nat) : (s.announceDrain q).clock = s.clock :=
  (State.announceDrain_touches s q).1 .clock (by decide)

@[simp] theorem State.announceDrain_pages (s : State) (q : Nat) : (s.announceDrain q).pages = s.pages :=
  (State.announceDrain_touches s q).1 .pages (by decide)

@[simp] theorem State.announceDrain_sendQueue (s : State) (q : Nat) : (s.announceDrain q).sendQueue = s.sendQueue :=
  (State.announceDrain_touches s q).1 .sendQueue (by decide)

@[simp] theorem State.announceDrain_lines (s : State) (q : Nat) : (s.announceDrain q).lines = s.lines :=
  (State.announceDrain_touches s q).1 .lines (by decide)

@[simp] theorem State.announceDrain_terms (s : State) (q : Nat) : (s.announceDrain q).terms = s.terms :=
  (State.announceDrain_touches s q).1 .terms (by decide)

@[simp] theorem State.announceDrain_scanner (s : State) (q : Nat) : (s.announceDrain q).scanner = s.scanner :=
  (State.announceDrain_touches s q).1 .scanner (by decide)

@[simp] theorem State.announceDrain_free (s : State) (q : Nat) : (s.announceDrain q).free = s.free :=
  (State.announceDrain_touches s q).1 .free (by decide)

@[simp] theorem State.announceDrain_pending (s : State) (q : Nat) : (s.announceDrain q).pending = s.pending :=
  (State.announceDrain_touches s q).1 .pending (by decide)

theorem State.answer_touches (s : State) (o : ReqOutcome) (k : Nat) : Touches [.engine] s (s.answer o k) :=
  State.withEngine_touches s _

@[simp] theorem State.answer_pins (s : State) (o : ReqOutcome) (k : Nat) : (s.answer o k).pins = s.pins :=
  (State.answer_touches s o k).1 .pins (by decide)

@[simp] theorem State.answer_part (s : State) (o : ReqOutcome) (k : Nat) : (s.answer o k).part = s.part :=
  (State.answer_touches s o k).1 .part (by decide)

@[simp] theorem State.answer_cause (s : State) (o : ReqOutcome) (k : Nat) : (s.answer o k).cause = s.cause :=
  (State.answer_touches s o k).1 .cause (by decide)

@[simp] theorem State.answer_base (s : State) (o : ReqOutcome) (k : Nat) : (s.answer o k).base = s.base :=
  (State.answer_touches s o k).1 .base (by decide)

@[simp] theorem State.answer_mem (s : State) (o : ReqOutcome) (k : Nat) : (s.answer o k).mem = s.mem :=
  (State.answer_touches s o k).1 .mem (by decide)

@[simp] theorem State.answer_path (s : State) (o : ReqOutcome) (k : Nat) : (s.answer o k).path = s.path :=
  (State.answer_touches s o k).1 .path (by decide)

@[simp] theorem State.answer_notices (s : State) (o : ReqOutcome) (k : Nat) : (s.answer o k).notices = s.notices :=
  (State.answer_touches s o k).1 .notices (by decide)

@[simp] theorem State.answer_marks (s : State) (o : ReqOutcome) (k : Nat) : (s.answer o k).marks = s.marks :=
  (State.answer_touches s o k).1 .marks (by decide)

@[simp] theorem State.answer_stories (s : State) (o : ReqOutcome) (k : Nat) : (s.answer o k).stories = s.stories :=
  (State.answer_touches s o k).1 .stories (by decide)

@[simp] theorem State.answer_baskets (s : State) (o : ReqOutcome) (k : Nat) : (s.answer o k).baskets = s.baskets :=
  (State.answer_touches s o k).1 .baskets (by decide)

@[simp] theorem State.answer_copyfit (s : State) (o : ReqOutcome) (k : Nat) : (s.answer o k).copyfit = s.copyfit :=
  (State.answer_touches s o k).1 .copyfit (by decide)

@[simp] theorem State.answer_clock (s : State) (o : ReqOutcome) (k : Nat) : (s.answer o k).clock = s.clock :=
  (State.answer_touches s o k).1 .clock (by decide)

@[simp] theorem State.answer_pages (s : State) (o : ReqOutcome) (k : Nat) : (s.answer o k).pages = s.pages :=
  (State.answer_touches s o k).1 .pages (by decide)

@[simp] theorem State.answer_sendQueue (s : State) (o : ReqOutcome) (k : Nat) : (s.answer o k).sendQueue = s.sendQueue :=
  (State.answer_touches s o k).1 .sendQueue (by decide)

@[simp] theorem State.answer_link (s : State) (o : ReqOutcome) (k : Nat) : (s.answer o k).link = s.link :=
  (State.answer_touches s o k).1 .link (by decide)

@[simp] theorem State.answer_lines (s : State) (o : ReqOutcome) (k : Nat) : (s.answer o k).lines = s.lines :=
  (State.answer_touches s o k).1 .lines (by decide)

@[simp] theorem State.answer_terms (s : State) (o : ReqOutcome) (k : Nat) : (s.answer o k).terms = s.terms :=
  (State.answer_touches s o k).1 .terms (by decide)

@[simp] theorem State.answer_scanner (s : State) (o : ReqOutcome) (k : Nat) : (s.answer o k).scanner = s.scanner :=
  (State.answer_touches s o k).1 .scanner (by decide)

@[simp] theorem State.answer_free (s : State) (o : ReqOutcome) (k : Nat) : (s.answer o k).free = s.free :=
  (State.answer_touches s o k).1 .free (by decide)

@[simp] theorem State.answer_pending (s : State) (o : ReqOutcome) (k : Nat) : (s.answer o k).pending = s.pending :=
  (State.answer_touches s o k).1 .pending (by decide)

theorem State.charge_touches (s : State) (o : MemOp) : Touches [.path] s (s.charge o) :=
  by
  unfold State.charge
  split <;> first | exact Touches.refl _ s | exact State.withPath_touches s _ | skip
  split
  · exact Touches.refl _ s
  · exact State.withPath_touches s _

@[simp] theorem State.charge_pins (s : State) (o : MemOp) : (s.charge o).pins = s.pins :=
  (State.charge_touches s o).1 .pins (by decide)

@[simp] theorem State.charge_part (s : State) (o : MemOp) : (s.charge o).part = s.part :=
  (State.charge_touches s o).1 .part (by decide)

@[simp] theorem State.charge_cause (s : State) (o : MemOp) : (s.charge o).cause = s.cause :=
  (State.charge_touches s o).1 .cause (by decide)

@[simp] theorem State.charge_base (s : State) (o : MemOp) : (s.charge o).base = s.base :=
  (State.charge_touches s o).1 .base (by decide)

@[simp] theorem State.charge_mem (s : State) (o : MemOp) : (s.charge o).mem = s.mem :=
  (State.charge_touches s o).1 .mem (by decide)

@[simp] theorem State.charge_engine (s : State) (o : MemOp) : (s.charge o).engine = s.engine :=
  (State.charge_touches s o).1 .engine (by decide)

@[simp] theorem State.charge_notices (s : State) (o : MemOp) : (s.charge o).notices = s.notices :=
  (State.charge_touches s o).1 .notices (by decide)

@[simp] theorem State.charge_marks (s : State) (o : MemOp) : (s.charge o).marks = s.marks :=
  (State.charge_touches s o).1 .marks (by decide)

@[simp] theorem State.charge_stories (s : State) (o : MemOp) : (s.charge o).stories = s.stories :=
  (State.charge_touches s o).1 .stories (by decide)

@[simp] theorem State.charge_baskets (s : State) (o : MemOp) : (s.charge o).baskets = s.baskets :=
  (State.charge_touches s o).1 .baskets (by decide)

@[simp] theorem State.charge_copyfit (s : State) (o : MemOp) : (s.charge o).copyfit = s.copyfit :=
  (State.charge_touches s o).1 .copyfit (by decide)

@[simp] theorem State.charge_clock (s : State) (o : MemOp) : (s.charge o).clock = s.clock :=
  (State.charge_touches s o).1 .clock (by decide)

@[simp] theorem State.charge_pages (s : State) (o : MemOp) : (s.charge o).pages = s.pages :=
  (State.charge_touches s o).1 .pages (by decide)

@[simp] theorem State.charge_sendQueue (s : State) (o : MemOp) : (s.charge o).sendQueue = s.sendQueue :=
  (State.charge_touches s o).1 .sendQueue (by decide)

@[simp] theorem State.charge_link (s : State) (o : MemOp) : (s.charge o).link = s.link :=
  (State.charge_touches s o).1 .link (by decide)

@[simp] theorem State.charge_lines (s : State) (o : MemOp) : (s.charge o).lines = s.lines :=
  (State.charge_touches s o).1 .lines (by decide)

@[simp] theorem State.charge_terms (s : State) (o : MemOp) : (s.charge o).terms = s.terms :=
  (State.charge_touches s o).1 .terms (by decide)

@[simp] theorem State.charge_scanner (s : State) (o : MemOp) : (s.charge o).scanner = s.scanner :=
  (State.charge_touches s o).1 .scanner (by decide)

@[simp] theorem State.charge_free (s : State) (o : MemOp) : (s.charge o).free = s.free :=
  (State.charge_touches s o).1 .free (by decide)

@[simp] theorem State.charge_pending (s : State) (o : MemOp) : (s.charge o).pending = s.pending :=
  (State.charge_touches s o).1 .pending (by decide)

theorem State.setBasket_touches (s : State) (b : Nat) (l : List Nat) : Touches [.baskets, .marks] s (s.setBasket b l) :=
  by
  unfold State.setBasket
  simp only
  split
  · exact (State.withBaskets_touches s _).via ((State.markEach_touches _ _).weaken)
  · exact (State.withBaskets_touches s _).via (((State.mark_touches _ _).weaken).trans ((State.markEach_touches _ _).weaken))

@[simp] theorem State.setBasket_pins (s : State) (b : Nat) (l : List Nat) : (s.setBasket b l).pins = s.pins :=
  (State.setBasket_touches s b l).1 .pins (by decide)

@[simp] theorem State.setBasket_part (s : State) (b : Nat) (l : List Nat) : (s.setBasket b l).part = s.part :=
  (State.setBasket_touches s b l).1 .part (by decide)

@[simp] theorem State.setBasket_cause (s : State) (b : Nat) (l : List Nat) : (s.setBasket b l).cause = s.cause :=
  (State.setBasket_touches s b l).1 .cause (by decide)

@[simp] theorem State.setBasket_base (s : State) (b : Nat) (l : List Nat) : (s.setBasket b l).base = s.base :=
  (State.setBasket_touches s b l).1 .base (by decide)

@[simp] theorem State.setBasket_mem (s : State) (b : Nat) (l : List Nat) : (s.setBasket b l).mem = s.mem :=
  (State.setBasket_touches s b l).1 .mem (by decide)

@[simp] theorem State.setBasket_path (s : State) (b : Nat) (l : List Nat) : (s.setBasket b l).path = s.path :=
  (State.setBasket_touches s b l).1 .path (by decide)

@[simp] theorem State.setBasket_engine (s : State) (b : Nat) (l : List Nat) : (s.setBasket b l).engine = s.engine :=
  (State.setBasket_touches s b l).1 .engine (by decide)

@[simp] theorem State.setBasket_notices (s : State) (b : Nat) (l : List Nat) : (s.setBasket b l).notices = s.notices :=
  (State.setBasket_touches s b l).1 .notices (by decide)

@[simp] theorem State.setBasket_stories (s : State) (b : Nat) (l : List Nat) : (s.setBasket b l).stories = s.stories :=
  (State.setBasket_touches s b l).1 .stories (by decide)

@[simp] theorem State.setBasket_copyfit (s : State) (b : Nat) (l : List Nat) : (s.setBasket b l).copyfit = s.copyfit :=
  (State.setBasket_touches s b l).1 .copyfit (by decide)

@[simp] theorem State.setBasket_clock (s : State) (b : Nat) (l : List Nat) : (s.setBasket b l).clock = s.clock :=
  (State.setBasket_touches s b l).1 .clock (by decide)

@[simp] theorem State.setBasket_pages (s : State) (b : Nat) (l : List Nat) : (s.setBasket b l).pages = s.pages :=
  (State.setBasket_touches s b l).1 .pages (by decide)

@[simp] theorem State.setBasket_sendQueue (s : State) (b : Nat) (l : List Nat) : (s.setBasket b l).sendQueue = s.sendQueue :=
  (State.setBasket_touches s b l).1 .sendQueue (by decide)

@[simp] theorem State.setBasket_link (s : State) (b : Nat) (l : List Nat) : (s.setBasket b l).link = s.link :=
  (State.setBasket_touches s b l).1 .link (by decide)

@[simp] theorem State.setBasket_lines (s : State) (b : Nat) (l : List Nat) : (s.setBasket b l).lines = s.lines :=
  (State.setBasket_touches s b l).1 .lines (by decide)

@[simp] theorem State.setBasket_terms (s : State) (b : Nat) (l : List Nat) : (s.setBasket b l).terms = s.terms :=
  (State.setBasket_touches s b l).1 .terms (by decide)

@[simp] theorem State.setBasket_scanner (s : State) (b : Nat) (l : List Nat) : (s.setBasket b l).scanner = s.scanner :=
  (State.setBasket_touches s b l).1 .scanner (by decide)

@[simp] theorem State.setBasket_free (s : State) (b : Nat) (l : List Nat) : (s.setBasket b l).free = s.free :=
  (State.setBasket_touches s b l).1 .free (by decide)

@[simp] theorem State.setBasket_pending (s : State) (b : Nat) (l : List Nat) : (s.setBasket b l).pending = s.pending :=
  (State.setBasket_touches s b l).1 .pending (by decide)

theorem State.joinBasket_touches (s : State) (n b : Nat) : Touches [.stories, .baskets, .marks] s (s.joinBasket n b) :=
  ((State.setStory_touches _ _ _).weaken).trans ((State.setBasket_touches _ _ _).weaken)

@[simp] theorem State.joinBasket_pins (s : State) (n b : Nat) : (s.joinBasket n b).pins = s.pins :=
  (State.joinBasket_touches s n b).1 .pins (by decide)

@[simp] theorem State.joinBasket_part (s : State) (n b : Nat) : (s.joinBasket n b).part = s.part :=
  (State.joinBasket_touches s n b).1 .part (by decide)

@[simp] theorem State.joinBasket_cause (s : State) (n b : Nat) : (s.joinBasket n b).cause = s.cause :=
  (State.joinBasket_touches s n b).1 .cause (by decide)

@[simp] theorem State.joinBasket_base (s : State) (n b : Nat) : (s.joinBasket n b).base = s.base :=
  (State.joinBasket_touches s n b).1 .base (by decide)

@[simp] theorem State.joinBasket_mem (s : State) (n b : Nat) : (s.joinBasket n b).mem = s.mem :=
  (State.joinBasket_touches s n b).1 .mem (by decide)

@[simp] theorem State.joinBasket_path (s : State) (n b : Nat) : (s.joinBasket n b).path = s.path :=
  (State.joinBasket_touches s n b).1 .path (by decide)

@[simp] theorem State.joinBasket_engine (s : State) (n b : Nat) : (s.joinBasket n b).engine = s.engine :=
  (State.joinBasket_touches s n b).1 .engine (by decide)

@[simp] theorem State.joinBasket_notices (s : State) (n b : Nat) : (s.joinBasket n b).notices = s.notices :=
  (State.joinBasket_touches s n b).1 .notices (by decide)

@[simp] theorem State.joinBasket_copyfit (s : State) (n b : Nat) : (s.joinBasket n b).copyfit = s.copyfit :=
  (State.joinBasket_touches s n b).1 .copyfit (by decide)

@[simp] theorem State.joinBasket_clock (s : State) (n b : Nat) : (s.joinBasket n b).clock = s.clock :=
  (State.joinBasket_touches s n b).1 .clock (by decide)

@[simp] theorem State.joinBasket_pages (s : State) (n b : Nat) : (s.joinBasket n b).pages = s.pages :=
  (State.joinBasket_touches s n b).1 .pages (by decide)

@[simp] theorem State.joinBasket_sendQueue (s : State) (n b : Nat) : (s.joinBasket n b).sendQueue = s.sendQueue :=
  (State.joinBasket_touches s n b).1 .sendQueue (by decide)

@[simp] theorem State.joinBasket_link (s : State) (n b : Nat) : (s.joinBasket n b).link = s.link :=
  (State.joinBasket_touches s n b).1 .link (by decide)

@[simp] theorem State.joinBasket_lines (s : State) (n b : Nat) : (s.joinBasket n b).lines = s.lines :=
  (State.joinBasket_touches s n b).1 .lines (by decide)

@[simp] theorem State.joinBasket_terms (s : State) (n b : Nat) : (s.joinBasket n b).terms = s.terms :=
  (State.joinBasket_touches s n b).1 .terms (by decide)

@[simp] theorem State.joinBasket_scanner (s : State) (n b : Nat) : (s.joinBasket n b).scanner = s.scanner :=
  (State.joinBasket_touches s n b).1 .scanner (by decide)

@[simp] theorem State.joinBasket_free (s : State) (n b : Nat) : (s.joinBasket n b).free = s.free :=
  (State.joinBasket_touches s n b).1 .free (by decide)

@[simp] theorem State.joinBasket_pending (s : State) (n b : Nat) : (s.joinBasket n b).pending = s.pending :=
  (State.joinBasket_touches s n b).1 .pending (by decide)

theorem State.leaveBasket_touches (s : State) (n : Nat) : Touches [.stories, .baskets, .marks] s (s.leaveBasket n) :=
  ((State.setBasket_touches _ _ _).weaken).trans ((State.setStory_touches _ _ _).weaken)

@[simp] theorem State.leaveBasket_pins (s : State) (n : Nat) : (s.leaveBasket n).pins = s.pins :=
  (State.leaveBasket_touches s n).1 .pins (by decide)

@[simp] theorem State.leaveBasket_part (s : State) (n : Nat) : (s.leaveBasket n).part = s.part :=
  (State.leaveBasket_touches s n).1 .part (by decide)

@[simp] theorem State.leaveBasket_cause (s : State) (n : Nat) : (s.leaveBasket n).cause = s.cause :=
  (State.leaveBasket_touches s n).1 .cause (by decide)

@[simp] theorem State.leaveBasket_base (s : State) (n : Nat) : (s.leaveBasket n).base = s.base :=
  (State.leaveBasket_touches s n).1 .base (by decide)

@[simp] theorem State.leaveBasket_mem (s : State) (n : Nat) : (s.leaveBasket n).mem = s.mem :=
  (State.leaveBasket_touches s n).1 .mem (by decide)

@[simp] theorem State.leaveBasket_path (s : State) (n : Nat) : (s.leaveBasket n).path = s.path :=
  (State.leaveBasket_touches s n).1 .path (by decide)

@[simp] theorem State.leaveBasket_engine (s : State) (n : Nat) : (s.leaveBasket n).engine = s.engine :=
  (State.leaveBasket_touches s n).1 .engine (by decide)

@[simp] theorem State.leaveBasket_notices (s : State) (n : Nat) : (s.leaveBasket n).notices = s.notices :=
  (State.leaveBasket_touches s n).1 .notices (by decide)

@[simp] theorem State.leaveBasket_copyfit (s : State) (n : Nat) : (s.leaveBasket n).copyfit = s.copyfit :=
  (State.leaveBasket_touches s n).1 .copyfit (by decide)

@[simp] theorem State.leaveBasket_clock (s : State) (n : Nat) : (s.leaveBasket n).clock = s.clock :=
  (State.leaveBasket_touches s n).1 .clock (by decide)

@[simp] theorem State.leaveBasket_pages (s : State) (n : Nat) : (s.leaveBasket n).pages = s.pages :=
  (State.leaveBasket_touches s n).1 .pages (by decide)

@[simp] theorem State.leaveBasket_sendQueue (s : State) (n : Nat) : (s.leaveBasket n).sendQueue = s.sendQueue :=
  (State.leaveBasket_touches s n).1 .sendQueue (by decide)

@[simp] theorem State.leaveBasket_link (s : State) (n : Nat) : (s.leaveBasket n).link = s.link :=
  (State.leaveBasket_touches s n).1 .link (by decide)

@[simp] theorem State.leaveBasket_lines (s : State) (n : Nat) : (s.leaveBasket n).lines = s.lines :=
  (State.leaveBasket_touches s n).1 .lines (by decide)

@[simp] theorem State.leaveBasket_terms (s : State) (n : Nat) : (s.leaveBasket n).terms = s.terms :=
  (State.leaveBasket_touches s n).1 .terms (by decide)

@[simp] theorem State.leaveBasket_scanner (s : State) (n : Nat) : (s.leaveBasket n).scanner = s.scanner :=
  (State.leaveBasket_touches s n).1 .scanner (by decide)

@[simp] theorem State.leaveBasket_free (s : State) (n : Nat) : (s.leaveBasket n).free = s.free :=
  (State.leaveBasket_touches s n).1 .free (by decide)

@[simp] theorem State.leaveBasket_pending (s : State) (n : Nat) : (s.leaveBasket n).pending = s.pending :=
  (State.leaveBasket_touches s n).1 .pending (by decide)

theorem State.setRefusedFlag_touches (s : State) (c : ContextKind) (v : Bool) : Touches [.notices, .marks] s (s.setRefusedFlag c v) :=
  by
  unfold State.setRefusedFlag
  split
  · exact Touches.refl _ s
  · split <;> exact (State.withNotices_touches s _).via ((State.mark_touches _ _).weaken)

@[simp] theorem State.setRefusedFlag_pins (s : State) (c : ContextKind) (v : Bool) : (s.setRefusedFlag c v).pins = s.pins :=
  (State.setRefusedFlag_touches s c v).1 .pins (by decide)

@[simp] theorem State.setRefusedFlag_part (s : State) (c : ContextKind) (v : Bool) : (s.setRefusedFlag c v).part = s.part :=
  (State.setRefusedFlag_touches s c v).1 .part (by decide)

@[simp] theorem State.setRefusedFlag_cause (s : State) (c : ContextKind) (v : Bool) : (s.setRefusedFlag c v).cause = s.cause :=
  (State.setRefusedFlag_touches s c v).1 .cause (by decide)

@[simp] theorem State.setRefusedFlag_base (s : State) (c : ContextKind) (v : Bool) : (s.setRefusedFlag c v).base = s.base :=
  (State.setRefusedFlag_touches s c v).1 .base (by decide)

@[simp] theorem State.setRefusedFlag_mem (s : State) (c : ContextKind) (v : Bool) : (s.setRefusedFlag c v).mem = s.mem :=
  (State.setRefusedFlag_touches s c v).1 .mem (by decide)

@[simp] theorem State.setRefusedFlag_path (s : State) (c : ContextKind) (v : Bool) : (s.setRefusedFlag c v).path = s.path :=
  (State.setRefusedFlag_touches s c v).1 .path (by decide)

@[simp] theorem State.setRefusedFlag_engine (s : State) (c : ContextKind) (v : Bool) : (s.setRefusedFlag c v).engine = s.engine :=
  (State.setRefusedFlag_touches s c v).1 .engine (by decide)

@[simp] theorem State.setRefusedFlag_stories (s : State) (c : ContextKind) (v : Bool) : (s.setRefusedFlag c v).stories = s.stories :=
  (State.setRefusedFlag_touches s c v).1 .stories (by decide)

@[simp] theorem State.setRefusedFlag_baskets (s : State) (c : ContextKind) (v : Bool) : (s.setRefusedFlag c v).baskets = s.baskets :=
  (State.setRefusedFlag_touches s c v).1 .baskets (by decide)

@[simp] theorem State.setRefusedFlag_copyfit (s : State) (c : ContextKind) (v : Bool) : (s.setRefusedFlag c v).copyfit = s.copyfit :=
  (State.setRefusedFlag_touches s c v).1 .copyfit (by decide)

@[simp] theorem State.setRefusedFlag_clock (s : State) (c : ContextKind) (v : Bool) : (s.setRefusedFlag c v).clock = s.clock :=
  (State.setRefusedFlag_touches s c v).1 .clock (by decide)

@[simp] theorem State.setRefusedFlag_pages (s : State) (c : ContextKind) (v : Bool) : (s.setRefusedFlag c v).pages = s.pages :=
  (State.setRefusedFlag_touches s c v).1 .pages (by decide)

@[simp] theorem State.setRefusedFlag_sendQueue (s : State) (c : ContextKind) (v : Bool) : (s.setRefusedFlag c v).sendQueue = s.sendQueue :=
  (State.setRefusedFlag_touches s c v).1 .sendQueue (by decide)

@[simp] theorem State.setRefusedFlag_link (s : State) (c : ContextKind) (v : Bool) : (s.setRefusedFlag c v).link = s.link :=
  (State.setRefusedFlag_touches s c v).1 .link (by decide)

@[simp] theorem State.setRefusedFlag_lines (s : State) (c : ContextKind) (v : Bool) : (s.setRefusedFlag c v).lines = s.lines :=
  (State.setRefusedFlag_touches s c v).1 .lines (by decide)

@[simp] theorem State.setRefusedFlag_terms (s : State) (c : ContextKind) (v : Bool) : (s.setRefusedFlag c v).terms = s.terms :=
  (State.setRefusedFlag_touches s c v).1 .terms (by decide)

@[simp] theorem State.setRefusedFlag_scanner (s : State) (c : ContextKind) (v : Bool) : (s.setRefusedFlag c v).scanner = s.scanner :=
  (State.setRefusedFlag_touches s c v).1 .scanner (by decide)

@[simp] theorem State.setRefusedFlag_free (s : State) (c : ContextKind) (v : Bool) : (s.setRefusedFlag c v).free = s.free :=
  (State.setRefusedFlag_touches s c v).1 .free (by decide)

@[simp] theorem State.setRefusedFlag_pending (s : State) (c : ContextKind) (v : Bool) : (s.setRefusedFlag c v).pending = s.pending :=
  (State.setRefusedFlag_touches s c v).1 .pending (by decide)

theorem State.composeOne_touches (s0 : State) (all : Bool) (s : State) (t : Nat) :
    Touches [.terms, .marks] s (State.composeOne s0 all s t) := by
  unfold State.composeOne
  split
  · exact State.markDirty_touches s t 23
  · exact Touches.refl _ s

theorem State.compose_touches (s0 s : State) (f : Bool) : Touches [.terms, .marks] s (State.compose s0 s f) :=
  by
  unfold State.compose
  split
  · exact Touches.foldl (fun s t => State.composeOne_touches s0 _ s t) _ s
  · exact Touches.refl _ s

@[simp] theorem State.compose_pins (s0 s : State) (f : Bool) : (State.compose s0 s f).pins = s.pins :=
  (State.compose_touches s0 s f).1 .pins (by decide)

@[simp] theorem State.compose_part (s0 s : State) (f : Bool) : (State.compose s0 s f).part = s.part :=
  (State.compose_touches s0 s f).1 .part (by decide)

@[simp] theorem State.compose_cause (s0 s : State) (f : Bool) : (State.compose s0 s f).cause = s.cause :=
  (State.compose_touches s0 s f).1 .cause (by decide)

@[simp] theorem State.compose_base (s0 s : State) (f : Bool) : (State.compose s0 s f).base = s.base :=
  (State.compose_touches s0 s f).1 .base (by decide)

@[simp] theorem State.compose_mem (s0 s : State) (f : Bool) : (State.compose s0 s f).mem = s.mem :=
  (State.compose_touches s0 s f).1 .mem (by decide)

@[simp] theorem State.compose_path (s0 s : State) (f : Bool) : (State.compose s0 s f).path = s.path :=
  (State.compose_touches s0 s f).1 .path (by decide)

@[simp] theorem State.compose_engine (s0 s : State) (f : Bool) : (State.compose s0 s f).engine = s.engine :=
  (State.compose_touches s0 s f).1 .engine (by decide)

@[simp] theorem State.compose_notices (s0 s : State) (f : Bool) : (State.compose s0 s f).notices = s.notices :=
  (State.compose_touches s0 s f).1 .notices (by decide)

@[simp] theorem State.compose_stories (s0 s : State) (f : Bool) : (State.compose s0 s f).stories = s.stories :=
  (State.compose_touches s0 s f).1 .stories (by decide)

@[simp] theorem State.compose_baskets (s0 s : State) (f : Bool) : (State.compose s0 s f).baskets = s.baskets :=
  (State.compose_touches s0 s f).1 .baskets (by decide)

@[simp] theorem State.compose_copyfit (s0 s : State) (f : Bool) : (State.compose s0 s f).copyfit = s.copyfit :=
  (State.compose_touches s0 s f).1 .copyfit (by decide)

@[simp] theorem State.compose_clock (s0 s : State) (f : Bool) : (State.compose s0 s f).clock = s.clock :=
  (State.compose_touches s0 s f).1 .clock (by decide)

@[simp] theorem State.compose_pages (s0 s : State) (f : Bool) : (State.compose s0 s f).pages = s.pages :=
  (State.compose_touches s0 s f).1 .pages (by decide)

@[simp] theorem State.compose_sendQueue (s0 s : State) (f : Bool) : (State.compose s0 s f).sendQueue = s.sendQueue :=
  (State.compose_touches s0 s f).1 .sendQueue (by decide)

@[simp] theorem State.compose_link (s0 s : State) (f : Bool) : (State.compose s0 s f).link = s.link :=
  (State.compose_touches s0 s f).1 .link (by decide)

@[simp] theorem State.compose_lines (s0 s : State) (f : Bool) : (State.compose s0 s f).lines = s.lines :=
  (State.compose_touches s0 s f).1 .lines (by decide)

@[simp] theorem State.compose_scanner (s0 s : State) (f : Bool) : (State.compose s0 s f).scanner = s.scanner :=
  (State.compose_touches s0 s f).1 .scanner (by decide)

@[simp] theorem State.compose_free (s0 s : State) (f : Bool) : (State.compose s0 s f).free = s.free :=
  (State.compose_touches s0 s f).1 .free (by decide)

@[simp] theorem State.compose_pending (s0 s : State) (f : Bool) : (State.compose s0 s f).pending = s.pending :=
  (State.compose_touches s0 s f).1 .pending (by decide)

theorem State.markScreens_touches (s : State) (a : Nat) : Touches [.terms, .marks] s (s.markScreens a) :=
  by
  unfold State.markScreens
  refine Touches.foldl (fun s t => ?_) _ s
  split
  · exact State.markDirty_touches s t _
  · exact Touches.refl _ s

@[simp] theorem State.markScreens_pins (s : State) (a : Nat) : (s.markScreens a).pins = s.pins :=
  (State.markScreens_touches s a).1 .pins (by decide)

@[simp] theorem State.markScreens_part (s : State) (a : Nat) : (s.markScreens a).part = s.part :=
  (State.markScreens_touches s a).1 .part (by decide)

@[simp] theorem State.markScreens_cause (s : State) (a : Nat) : (s.markScreens a).cause = s.cause :=
  (State.markScreens_touches s a).1 .cause (by decide)

@[simp] theorem State.markScreens_base (s : State) (a : Nat) : (s.markScreens a).base = s.base :=
  (State.markScreens_touches s a).1 .base (by decide)

@[simp] theorem State.markScreens_mem (s : State) (a : Nat) : (s.markScreens a).mem = s.mem :=
  (State.markScreens_touches s a).1 .mem (by decide)

@[simp] theorem State.markScreens_path (s : State) (a : Nat) : (s.markScreens a).path = s.path :=
  (State.markScreens_touches s a).1 .path (by decide)

@[simp] theorem State.markScreens_engine (s : State) (a : Nat) : (s.markScreens a).engine = s.engine :=
  (State.markScreens_touches s a).1 .engine (by decide)

@[simp] theorem State.markScreens_notices (s : State) (a : Nat) : (s.markScreens a).notices = s.notices :=
  (State.markScreens_touches s a).1 .notices (by decide)

@[simp] theorem State.markScreens_stories (s : State) (a : Nat) : (s.markScreens a).stories = s.stories :=
  (State.markScreens_touches s a).1 .stories (by decide)

@[simp] theorem State.markScreens_baskets (s : State) (a : Nat) : (s.markScreens a).baskets = s.baskets :=
  (State.markScreens_touches s a).1 .baskets (by decide)

@[simp] theorem State.markScreens_copyfit (s : State) (a : Nat) : (s.markScreens a).copyfit = s.copyfit :=
  (State.markScreens_touches s a).1 .copyfit (by decide)

@[simp] theorem State.markScreens_clock (s : State) (a : Nat) : (s.markScreens a).clock = s.clock :=
  (State.markScreens_touches s a).1 .clock (by decide)

@[simp] theorem State.markScreens_pages (s : State) (a : Nat) : (s.markScreens a).pages = s.pages :=
  (State.markScreens_touches s a).1 .pages (by decide)

@[simp] theorem State.markScreens_sendQueue (s : State) (a : Nat) : (s.markScreens a).sendQueue = s.sendQueue :=
  (State.markScreens_touches s a).1 .sendQueue (by decide)

@[simp] theorem State.markScreens_link (s : State) (a : Nat) : (s.markScreens a).link = s.link :=
  (State.markScreens_touches s a).1 .link (by decide)

@[simp] theorem State.markScreens_lines (s : State) (a : Nat) : (s.markScreens a).lines = s.lines :=
  (State.markScreens_touches s a).1 .lines (by decide)

@[simp] theorem State.markScreens_scanner (s : State) (a : Nat) : (s.markScreens a).scanner = s.scanner :=
  (State.markScreens_touches s a).1 .scanner (by decide)

@[simp] theorem State.markScreens_free (s : State) (a : Nat) : (s.markScreens a).free = s.free :=
  (State.markScreens_touches s a).1 .free (by decide)

@[simp] theorem State.markScreens_pending (s : State) (a : Nat) : (s.markScreens a).pending = s.pending :=
  (State.markScreens_touches s a).1 .pending (by decide)

end Sys2Proof.Machine
end

