-- ==== Sys2Proof/Laws/Blocks.lean ====
section
/-! SUPPORT. What each shared operation of the blocks can change: one statement for each. -/

namespace Sys2Proof.Machine

theorem State.setLineFlag_touches (s : State) (n : Nat) (f : LineFlag) (c : Cause) : Touches [.lines, .notices, .marks] s (State.setLineFlag s n f c) := by
  unfold State.setLineFlag
  repeat' first
    | decide
    | with_reducible apply Touches.refl
    | with_reducible apply Touches.ite
    | with_reducible apply Touches.back (State.setLine_touches ..)
    | with_reducible apply Touches.back (State.notify_touches ..)

theorem State.joinRecount_touches (s : State) (n : Nat) (tag : Option Nat) : Touches [.stories, .copyfit, .marks] s (State.joinRecount s n tag) := by
  unfold State.joinRecount
  repeat' first
    | decide
    | with_reducible apply Touches.refl
    | with_reducible apply Touches.ite
    | with_reducible apply Touches.back (State.setStory_touches ..)
    | with_reducible apply Touches.back (State.withCopyfit_touches ..)

theorem State.restartRecount_touches (s : State) (n : Nat) : Touches [.stories, .copyfit, .marks] s (State.restartRecount s n) := by
  unfold State.restartRecount
  repeat' first
    | decide
    | with_reducible apply Touches.refl
    | with_reducible apply Touches.ite
    | with_reducible apply Touches.back (State.setStory_touches ..)
    | with_reducible apply Touches.back (State.withCopyfit_touches ..)

theorem State.enterRecount_touches (s : State) (n : Nat) : Touches [.stories, .copyfit, .marks] s (State.enterRecount s n) := by
  unfold State.enterRecount
  repeat' first
    | decide
    | with_reducible apply Touches.refl
    | with_reducible apply Touches.ite
    | with_reducible apply Touches.back (State.joinRecount_touches ..)
    | with_reducible apply Touches.back (State.restartRecount_touches ..)
    | split

theorem State.uncountedWrite_touches (s : State) (a n : Nat) : Touches [.stories, .copyfit, .marks] s (State.uncountedWrite s a n) := by
  unfold State.uncountedWrite
  repeat' first
    | decide
    | with_reducible apply Touches.refl
    | with_reducible apply Touches.ite
    | with_reducible apply Touches.back (State.enterRecount_touches ..)
    | with_reducible apply Touches.foldlBack
    | intro _ _

theorem State.leaveRecount_touches (s : State) (n : Nat) : Touches [.stories, .copyfit, .marks] s (State.leaveRecount s n) := by
  unfold State.leaveRecount
  repeat' first
    | decide
    | with_reducible apply Touches.refl
    | with_reducible apply Touches.ite
    | with_reducible apply Touches.back (State.withCopyfit_touches ..)
    | with_reducible apply Touches.back (State.setStory_touches ..)

theorem State.abandonForKill_touches (s : State) (n : Nat) : Touches [.stories, .copyfit, .marks] s (State.abandonForKill s n) := by
  unfold State.abandonForKill
  repeat' first
    | decide
    | with_reducible apply Touches.refl
    | with_reducible apply Touches.ite
    | with_reducible apply Touches.back (State.leaveRecount_touches ..)
    | with_reducible apply Touches.back (State.setStory_touches ..)

theorem State.abandonForPurge_touches (s : State) (n : Nat) : Touches [.stories, .copyfit, .marks] s (State.abandonForPurge s n) := by
  unfold State.abandonForPurge
  repeat' first
    | decide
    | with_reducible apply Touches.refl
    | with_reducible apply Touches.ite
    | with_reducible apply Touches.back (State.leaveRecount_touches ..)

theorem State.textDrained_touches (s : State) (n off : Nat) (old new : Byte) : Touches [.stories, .copyfit, .marks] s (State.textDrained s n off old new) := by
  unfold State.textDrained
  repeat' first
    | decide
    | with_reducible apply Touches.refl
    | with_reducible apply Touches.ite
    | with_reducible apply Touches.back (State.setStory_touches ..)
    | split

theorem State.startRecount_touches (s : State) : Touches [.stories, .copyfit, .marks] s (State.startRecount s) := by
  unfold State.startRecount
  repeat' first
    | decide
    | with_reducible apply Touches.refl
    | with_reducible apply Touches.ite
    | with_reducible apply Touches.back (State.setStory_touches ..)
    | with_reducible apply Touches.back (State.withCopyfit_touches ..)
    | split

theorem State.completeRecount_touches (s : State) (n : Nat) : Touches [.stories, .copyfit, .marks] s (State.completeRecount s n) := by
  unfold State.completeRecount
  repeat' first
    | decide
    | with_reducible apply Touches.refl
    | with_reducible apply Touches.ite
    | with_reducible apply Touches.back (State.withCopyfit_touches ..)
    | with_reducible apply Touches.back (State.setStory_touches ..)

theorem State.countPiece_touches (s : State) (n : Nat) : Touches [.stories, .copyfit, .marks] s (State.countPiece s n) := by
  unfold State.countPiece
  repeat' first
    | decide
    | with_reducible apply Touches.refl
    | with_reducible apply Touches.ite
    | with_reducible apply Touches.back (State.setStory_touches ..)
    | with_reducible apply Touches.back (State.withCopyfit_touches ..)
    | with_reducible apply Touches.back (State.completeRecount_touches ..)

theorem State.completeLoad_touches (s : State) (f : Nat) (table : Table 224 Nat) (loaded : Bool) (clamped : Nat) : Touches [.stories, .copyfit, .marks, .engine] s (State.completeLoad s f table loaded clamped) := by
  unfold State.completeLoad
  repeat' first
    | decide
    | with_reducible apply Touches.refl
    | with_reducible apply Touches.ite
    | with_reducible apply Touches.back (State.withCopyfit_touches ..)
    | with_reducible apply Touches.back (State.mark_touches ..)
    | with_reducible apply Touches.back (State.enterRecount_touches ..)
    | with_reducible apply Touches.back (State.answer_touches ..)
    | with_reducible apply Touches.foldlBack
    | intro _ _

theorem doLoadwidths_touches (r : Request) (s : State) : Touches [.stories, .copyfit, .engine, .marks] s (doLoadwidths r s) := by
  unfold doLoadwidths
  repeat' first
    | decide
    | with_reducible apply Touches.refl
    | with_reducible apply Touches.ite
    | with_reducible apply Touches.back (State.answer_touches ..)
    | with_reducible apply Touches.back (State.completeLoad_touches ..)
    | with_reducible apply Touches.back (State.withEngine_touches ..)

theorem State.widthPiece_touches (s : State) (f src : Nat) (ws : List Nat) (clamped : Nat) : Touches [.stories, .copyfit, .marks, .engine] s (State.widthPiece s f src ws clamped) := by
  unfold State.widthPiece
  repeat' first
    | decide
    | with_reducible apply Touches.refl
    | with_reducible apply Touches.ite
    | with_reducible apply Touches.back (State.completeLoad_touches ..)
    | with_reducible apply Touches.back (State.withEngine_touches ..)

theorem State.setStyle_touches (s : State) (n : Nat) (y : Style) : Touches [.stories, .copyfit, .marks] s (State.setStyle s n y) := by
  unfold State.setStyle
  repeat' first
    | decide
    | with_reducible apply Touches.refl
    | with_reducible apply Touches.ite
    | with_reducible apply Touches.back (State.setStory_touches ..)
    | with_reducible apply Touches.back (State.enterRecount_touches ..)

theorem doStyle_touches (r : Request) (s : State) : Touches [.stories, .copyfit, .engine, .marks] s (doStyle r s) := by
  unfold doStyle
  repeat' first
    | decide
    | with_reducible apply Touches.refl
    | with_reducible apply Touches.ite
    | with_reducible apply Touches.back (State.answer_touches ..)
    | with_reducible apply Touches.back (State.setStyle_touches ..)

theorem State.setHole_touches (s : State) (n a : Nat) : Touches [.stories, .marks] s (State.setHole s n a) := by
  unfold State.setHole
  repeat' first
    | decide
    | with_reducible apply Touches.refl
    | with_reducible apply Touches.ite
    | with_reducible apply Touches.back (State.setStory_touches ..)

theorem State.setPlacementHole_touches (s : State) (n a : Nat) : Touches [.pages, .marks] s (State.setPlacementHole s n a) := by
  unfold State.setPlacementHole
  repeat' first
    | decide
    | with_reducible apply Touches.refl
    | with_reducible apply Touches.ite
    | with_reducible apply Touches.back (State.setPage_touches ..)
    | with_reducible apply Touches.back (State.mark_touches ..)
    | split

theorem doAllot_touches (r : Request) (s : State) : Touches [.stories, .pages, .engine, .marks] s (doAllot r s) := by
  unfold doAllot
  repeat' first
    | decide
    | with_reducible apply Touches.refl
    | with_reducible apply Touches.ite
    | with_reducible apply Touches.back (State.answer_touches ..)
    | with_reducible apply Touches.back (State.setHole_touches ..)
    | with_reducible apply Touches.back (State.setPlacementHole_touches ..)

theorem State.renumber_touches (s : State) (p k : Nat) (l : List Placed) :
    Touches [.stories, .marks] s (s.renumber p k l) := by
  induction l generalizing s k with
  | nil => exact Touches.refl _ s
  | cons q qs ih => exact Touches.trans (State.setStory_touches ..) (ih _ _)

theorem State.removePlacement_touches (s : State) (n : Nat) : Touches [.stories, .pages, .marks] s (State.removePlacement s n) := by
  unfold State.removePlacement
  repeat' first
    | decide
    | with_reducible apply Touches.refl
    | with_reducible apply Touches.ite
    | with_reducible apply Touches.back (State.setPage_touches ..)
    | with_reducible apply Touches.back (State.setStory_touches ..)
    | with_reducible apply Touches.back (State.renumber_touches ..)
    | split

theorem State.queueStory_touches (s : State) (n : Nat) : Touches [.stories, .baskets, .marks] s (State.queueStory s n) := by
  unfold State.queueStory
  repeat' first
    | decide
    | with_reducible apply Touches.refl
    | with_reducible apply Touches.ite
    | with_reducible apply Touches.back (State.leaveBasket_touches ..)
    | with_reducible apply Touches.back (State.setStory_touches ..)

theorem State.releasePage_touches (s : State) (p : Nat) : Touches [.stories, .baskets, .pages, .sendQueue, .marks] s (State.releasePage s p) := by
  unfold State.releasePage
  repeat' first
    | decide
    | with_reducible apply Touches.refl
    | with_reducible apply Touches.ite
    | with_reducible apply Touches.back (State.setPage_touches ..)
    | with_reducible apply Touches.back (State.setSendQueue_touches ..)
    | with_reducible apply Touches.back (State.queueStory_touches ..)
    | with_reducible apply Touches.foldlBack
    | intro _ _

theorem doRegister_touches (r : Request) (s : State) : Touches [.stories, .baskets, .copyfit, .engine, .marks] s (doRegister r s) := by
  unfold doRegister
  repeat' first
    | decide
    | with_reducible apply Touches.refl
    | with_reducible apply Touches.ite
    | with_reducible apply Touches.back (State.answer_touches ..)
    | with_reducible apply Touches.back (State.setStory_touches ..)
    | with_reducible apply Touches.back (State.joinBasket_touches ..)
    | with_reducible apply Touches.back (State.joinRecount_touches ..)

theorem doTake_touches (r : Request) (s : State) : Touches [.stories, .engine, .marks] s (doTake r s) := by
  unfold doTake
  repeat' first
    | decide
    | with_reducible apply Touches.refl
    | with_reducible apply Touches.ite
    | with_reducible apply Touches.back (State.answer_touches ..)
    | with_reducible apply Touches.back (State.setStory_touches ..)

theorem doReturn_touches (r : Request) (s : State) : Touches [.stories, .engine, .marks] s (doReturn r s) := by
  unfold doReturn
  repeat' first
    | decide
    | with_reducible apply Touches.refl
    | with_reducible apply Touches.ite
    | with_reducible apply Touches.back (State.answer_touches ..)
    | with_reducible apply Touches.back (State.setStory_touches ..)

theorem State.fileTo_touches (s : State) (n b : Nat) (u : Bool) : Touches [.stories, .baskets, .marks] s (State.fileTo s n b u) := by
  unfold State.fileTo
  repeat' first
    | decide
    | with_reducible apply Touches.refl
    | with_reducible apply Touches.ite
    | with_reducible apply Touches.back (State.setStory_touches ..)
    | with_reducible apply Touches.back (State.leaveBasket_touches ..)
    | with_reducible apply Touches.back (State.joinBasket_touches ..)

theorem doFile_touches (r : Request) (s : State) : Touches [.stories, .baskets, .engine, .marks] s (doFile r s) := by
  unfold doFile
  repeat' first
    | decide
    | with_reducible apply Touches.refl
    | with_reducible apply Touches.ite
    | with_reducible apply Touches.back (State.answer_touches ..)
    | with_reducible apply Touches.back (State.fileTo_touches ..)

theorem State.killStory_touches (s : State) (n : Nat) : Touches [.stories, .baskets, .pages, .copyfit, .marks] s (State.killStory s n) := by
  unfold State.killStory
  repeat' first
    | decide
    | with_reducible apply Touches.refl
    | with_reducible apply Touches.ite
    | with_reducible apply Touches.back (State.leaveBasket_touches ..)
    | with_reducible apply Touches.back (State.setStory_touches ..)
    | with_reducible apply Touches.back (State.removePlacement_touches ..)
    | with_reducible apply Touches.back (State.abandonForKill_touches ..)

theorem doKill_touches (r : Request) (s : State) : Touches [.stories, .baskets, .pages, .copyfit, .engine, .marks] s (doKill r s) := by
  unfold doKill
  repeat' first
    | decide
    | with_reducible apply Touches.refl
    | with_reducible apply Touches.ite
    | with_reducible apply Touches.back (State.answer_touches ..)
    | with_reducible apply Touches.back (State.killStory_touches ..)

theorem doPurge_touches (r : Request) (s : State) : Touches [.stories, .copyfit, .engine, .marks] s (doPurge r s) := by
  unfold doPurge
  repeat' first
    | decide
    | with_reducible apply Touches.refl
    | with_reducible apply Touches.ite
    | with_reducible apply Touches.back (State.answer_touches ..)
    | with_reducible apply Touches.back (State.abandonForPurge_touches ..)
    | with_reducible apply Touches.back (State.setStory_touches ..)

theorem State.judgePage_touches (e : Nat) (s : State) (p : Nat) : Touches [.stories, .baskets, .pages, .sendQueue, .notices, .marks] s (State.judgePage e s p) := by
  unfold State.judgePage
  repeat' first
    | decide
    | with_reducible apply Touches.refl
    | with_reducible apply Touches.ite
    | with_reducible apply Touches.back (State.releasePage_touches ..)
    | with_reducible apply Touches.back (State.setPage_touches ..)
    | with_reducible apply Touches.back (State.notify_touches ..)

theorem State.closeProcessing_touches (s : State) (e : Nat) : Touches [.stories, .baskets, .pages, .sendQueue, .notices, .marks] s (State.closeProcessing s e) := by
  unfold State.closeProcessing
  repeat' first
    | decide
    | with_reducible apply Touches.refl
    | with_reducible apply Touches.ite
    | with_reducible apply Touches.back (State.judgePage_touches ..)
    | with_reducible apply Touches.foldlBack
    | intro _ _

theorem State.lockoutStep_touches (s : State) (e : Nat) : Touches [.clock, .marks] s (State.lockoutStep s e) := by
  unfold State.lockoutStep
  repeat' first
    | decide
    | with_reducible apply Touches.refl
    | with_reducible apply Touches.ite
    | with_reducible apply Touches.back (State.setEdition_touches ..)

theorem State.beginWindow_touches (s : State) (e : Nat) (r : Edition) : Touches [.clock, .notices, .marks] s (State.beginWindow s e r) := by
  unfold State.beginWindow
  repeat' first
    | decide
    | with_reducible apply Touches.refl
    | with_reducible apply Touches.ite
    | with_reducible apply Touches.back (State.setEdition_touches ..)
    | with_reducible apply Touches.back (State.notify_touches ..)

theorem State.closeEdition_touches (s : State) (e : Nat) : Touches [.stories, .baskets, .pages, .sendQueue, .notices, .clock, .marks] s (State.closeEdition s e) := by
  unfold State.closeEdition
  repeat' first
    | decide
    | with_reducible apply Touches.refl
    | with_reducible apply Touches.ite
    | with_reducible apply Touches.back (State.closeProcessing_touches ..)
    | with_reducible apply Touches.back (State.setEdition_touches ..)
    | with_reducible apply Touches.back (State.notify_touches ..)

theorem State.closeStep_touches (s : State) (e : Nat) : Touches [.stories, .baskets, .pages, .sendQueue, .notices, .clock, .marks] s (State.closeStep s e) := by
  unfold State.closeStep
  repeat' first
    | decide
    | with_reducible apply Touches.refl
    | with_reducible apply Touches.ite
    | with_reducible apply Touches.back (State.beginWindow_touches ..)
    | with_reducible apply Touches.back (State.closeEdition_touches ..)

theorem State.graceEndStep_touches (s : State) (e : Nat) : Touches [.stories, .baskets, .pages, .sendQueue, .notices, .clock, .marks] s (State.graceEndStep s e) := by
  unfold State.graceEndStep
  repeat' first
    | decide
    | with_reducible apply Touches.refl
    | with_reducible apply Touches.ite
    | with_reducible apply Touches.back (State.beginWindow_touches ..)
    | with_reducible apply Touches.back (State.closeEdition_touches ..)

theorem State.evaluate_touches (s : State) (e : Nat) : Touches [.stories, .baskets, .pages, .sendQueue, .notices, .clock, .marks] s (State.evaluate s e) := by
  unfold State.evaluate
  repeat' first
    | decide
    | with_reducible apply Touches.refl
    | with_reducible apply Touches.ite
    | with_reducible apply Touches.back (State.lockoutStep_touches ..)
    | with_reducible apply Touches.back (State.closeStep_touches ..)
    | with_reducible apply Touches.back (State.graceEndStep_touches ..)

theorem State.evaluateEvent_touches (s : State) (e : Nat) : Touches [.stories, .baskets, .pages, .sendQueue, .notices, .clock, .terms, .marks] s (State.evaluateEvent s e) := by
  unfold State.evaluateEvent
  repeat' first
    | decide
    | with_reducible apply Touches.refl
    | with_reducible apply Touches.ite
    | with_reducible apply Touches.back (State.compose_touches ..)
    | with_reducible apply Touches.back (State.evaluate_touches ..)

theorem State.evaluateAll_touches (s : State) : Touches [.stories, .baskets, .pages, .sendQueue, .notices, .clock, .terms, .free, .marks] s (State.evaluateAll s) := by
  unfold State.evaluateAll
  repeat' first
    | decide
    | with_reducible apply Touches.refl
    | with_reducible apply Touches.ite
    | with_reducible apply Touches.back (State.evaluateEvent_touches ..)
    | with_reducible apply Touches.back (State.withFree_touches ..)
    | with_reducible apply Touches.foldlBack
    | intro _ _
    | split

theorem State.rollover_touches (s : State) : Touches [.clock, .marks] s (State.rollover s) := by
  unfold State.rollover
  repeat' first
    | decide
    | with_reducible apply Touches.refl
    | with_reducible apply Touches.ite
    | with_reducible apply Touches.back (State.setEdition_touches ..)
    | with_reducible apply Touches.back (State.mark_touches ..)
    | with_reducible apply Touches.foldlBack
    | intro _ _

theorem State.linkTimerTick_touches (s : State) : Touches [.link, .marks] s (State.linkTimerTick s) := by
  unfold State.linkTimerTick
  repeat' first
    | decide
    | with_reducible apply Touches.refl
    | with_reducible apply Touches.ite
    | with_reducible apply Touches.back (State.setLink_touches ..)

theorem State.nextSecond_touches (s : State) : Touches [.clock] s (State.nextSecond s) := State.withClock_touches ..

theorem State.secondEvaluated_touches (s : State) : Touches [.stories, .baskets, .pages, .sendQueue, .notices, .clock, .terms, .free, .marks] s (State.secondEvaluated s) := by
  unfold State.secondEvaluated
  repeat' first
    | decide
    | with_reducible apply Touches.refl
    | with_reducible apply Touches.ite
    | with_reducible apply Touches.back (State.rollover_touches ..)
    | with_reducible apply Touches.back (State.evaluateAll_touches ..)

theorem State.advance_touches (s : State) : Touches [.stories, .baskets, .pages, .sendQueue, .notices, .clock, .terms, .free, .link, .marks] s (State.advance s) := by
  unfold State.advance
  repeat' first
    | decide
    | with_reducible apply Touches.refl
    | with_reducible apply Touches.back (State.nextSecond_touches ..)
    | with_reducible apply Touches.back (State.linkTimerTick_touches ..)
    | with_reducible apply Touches.back (State.secondEvaluated_touches ..)
    | with_reducible apply Touches.back (State.mark_touches ..)

theorem doSettime_touches (r : Request) (s : State) : Touches [.stories, .baskets, .pages, .sendQueue, .notices, .clock, .terms, .free, .engine, .marks] s (doSettime r s) := by
  unfold doSettime
  repeat' first
    | decide
    | with_reducible apply Touches.refl
    | with_reducible apply Touches.ite
    | with_reducible apply Touches.back (State.answer_touches ..)
    | with_reducible apply Touches.back (State.withClock_touches ..)
    | with_reducible apply Touches.back (State.mark_touches ..)
    | with_reducible apply Touches.back (State.compose_touches ..)
    | with_reducible apply Touches.back (State.evaluateAll_touches ..)

theorem doSchedule_touches (r : Request) (s : State) : Touches [.stories, .baskets, .pages, .sendQueue, .notices, .clock, .engine, .marks] s (doSchedule r s) := by
  unfold doSchedule
  repeat' first
    | decide
    | with_reducible apply Touches.refl
    | with_reducible apply Touches.ite
    | with_reducible apply Touches.back (State.answer_touches ..)
    | with_reducible apply Touches.back (State.setEdition_touches ..)
    | with_reducible apply Touches.back (State.evaluate_touches ..)
    | with_reducible apply Touches.back (State.mark_touches ..)

theorem doHold_touches (r : Request) (s : State) : Touches [.clock, .engine, .marks] s (doHold r s) := by
  unfold doHold
  repeat' first
    | decide
    | with_reducible apply Touches.refl
    | with_reducible apply Touches.ite
    | with_reducible apply Touches.back (State.answer_touches ..)
    | with_reducible apply Touches.back (State.setEdition_touches ..)
    | split

theorem doSetpage_touches (r : Request) (s : State) : Touches [.pages, .engine, .marks] s (doSetpage r s) := by
  unfold doSetpage
  repeat' first
    | decide
    | with_reducible apply Touches.refl
    | with_reducible apply Touches.ite
    | with_reducible apply Touches.back (State.answer_touches ..)
    | with_reducible apply Touches.back (State.setPage_touches ..)

theorem State.placeStory_touches (s : State) (n p a : Nat) : Touches [.stories, .pages, .marks] s (State.placeStory s n p a) := by
  unfold State.placeStory
  repeat' first
    | decide
    | with_reducible apply Touches.refl
    | with_reducible apply Touches.ite
    | with_reducible apply Touches.back (State.setPage_touches ..)
    | with_reducible apply Touches.back (State.setStory_touches ..)
    | with_reducible apply Touches.back (State.setHole_touches ..)

theorem doPlace_touches (r : Request) (s : State) : Touches [.stories, .pages, .engine, .marks] s (doPlace r s) := by
  unfold doPlace
  repeat' first
    | decide
    | with_reducible apply Touches.refl
    | with_reducible apply Touches.ite
    | with_reducible apply Touches.back (State.answer_touches ..)
    | with_reducible apply Touches.back (State.placeStory_touches ..)

theorem doUnplace_touches (r : Request) (s : State) : Touches [.stories, .pages, .engine, .marks] s (doUnplace r s) := by
  unfold doUnplace
  repeat' first
    | decide
    | with_reducible apply Touches.refl
    | with_reducible apply Touches.ite
    | with_reducible apply Touches.back (State.answer_touches ..)
    | with_reducible apply Touches.back (State.removePlacement_touches ..)
    | split

theorem doRelease_touches (r : Request) (s : State) : Touches [.stories, .baskets, .pages, .sendQueue, .engine, .marks] s (doRelease r s) := by
  unfold doRelease
  repeat' first
    | decide
    | with_reducible apply Touches.refl
    | with_reducible apply Touches.ite
    | with_reducible apply Touches.back (State.answer_touches ..)
    | with_reducible apply Touches.back (State.releasePage_touches ..)

theorem State.fileBack_touches (b : Nat) (s : State) (n : Nat) : Touches [.stories, .baskets, .marks] s (State.fileBack b s n) := by
  unfold State.fileBack
  repeat' first
    | decide
    | with_reducible apply Touches.refl
    | with_reducible apply Touches.ite
    | with_reducible apply Touches.back (State.setStory_touches ..)
    | with_reducible apply Touches.back (State.joinBasket_touches ..)

theorem doReopen_touches (r : Request) (s : State) : Touches [.stories, .baskets, .pages, .engine, .marks] s (doReopen r s) := by
  unfold doReopen
  repeat' first
    | decide
    | with_reducible apply Touches.refl
    | with_reducible apply Touches.ite
    | with_reducible apply Touches.back (State.answer_touches ..)
    | with_reducible apply Touches.back (State.fileBack_touches ..)
    | with_reducible apply Touches.back (State.setPage_touches ..)
    | with_reducible apply Touches.foldlBack
    | intro _ _

theorem State.clearStory_touches (s : State) (n : Nat) : Touches [.stories, .baskets, .marks] s (State.clearStory s n) := by
  unfold State.clearStory
  repeat' first
    | decide
    | with_reducible apply Touches.refl
    | with_reducible apply Touches.ite
    | with_reducible apply Touches.back (State.setStory_touches ..)
    | with_reducible apply Touches.back (State.fileBack_touches ..)

theorem doClear_touches (r : Request) (s : State) : Touches [.stories, .baskets, .pages, .engine, .marks] s (doClear r s) := by
  unfold doClear
  repeat' first
    | decide
    | with_reducible apply Touches.refl
    | with_reducible apply Touches.ite
    | with_reducible apply Touches.back (State.answer_touches ..)
    | with_reducible apply Touches.back (State.setPage_touches ..)
    | with_reducible apply Touches.back (State.clearStory_touches ..)
    | with_reducible apply Touches.foldlBack
    | intro _ _

theorem State.requeueSet_touches (s : State) (n : Nat) : Touches [.stories, .marks] s (State.requeueSet s n) := by
  unfold State.requeueSet
  repeat' first
    | decide
    | with_reducible apply Touches.refl
    | with_reducible apply Touches.ite
    | with_reducible apply Touches.back (State.setStory_touches ..)

theorem doResume_touches (r : Request) (s : State) : Touches [.stories, .pages, .sendQueue, .engine, .marks] s (doResume r s) := by
  unfold doResume
  repeat' first
    | decide
    | with_reducible apply Touches.refl
    | with_reducible apply Touches.ite
    | with_reducible apply Touches.back (State.answer_touches ..)
    | with_reducible apply Touches.back (State.setPage_touches ..)
    | with_reducible apply Touches.back (State.setSendQueue_touches ..)
    | with_reducible apply Touches.back (State.requeueSet_touches ..)
    | with_reducible apply Touches.foldlBack
    | intro _ _

theorem State.linkProduce_touches (s : State) : Touches [.link] s (State.linkProduce s) := by
  unfold State.linkProduce
  repeat' first
    | decide
    | with_reducible apply Touches.refl
    | with_reducible apply Touches.ite
    | with_reducible apply Touches.back (State.withLink_touches ..)
    | split

theorem State.linkMove_touches (s : State) : Touches [.link] s (State.linkMove s) := by
  unfold State.linkMove
  repeat' first
    | decide
    | with_reducible apply Touches.refl
    | with_reducible apply Touches.ite
    | with_reducible apply Touches.back (State.withLink_touches ..)

theorem State.linkPump_touches (s : State) : Touches [.link] s (State.linkPump s) := by
  unfold State.linkPump
  repeat' first
    | decide
    | with_reducible apply Touches.refl
    | with_reducible apply Touches.ite
    | with_reducible apply Touches.back (State.linkProduce_touches ..)
    | with_reducible apply Touches.back (State.linkMove_touches ..)

theorem State.startSending_touches (s : State) (n : Nat) : Touches [.stories, .marks] s (State.startSending s n) := by
  unfold State.startSending
  repeat' first
    | decide
    | with_reducible apply Touches.refl
    | with_reducible apply Touches.ite
    | with_reducible apply Touches.back (State.setStory_touches ..)
    | with_reducible apply Touches.back (State.mark_touches ..)

theorem State.takePage_touches (s : State) (p : Nat) (q : List Nat) : Touches [.stories, .pages, .sendQueue, .link, .marks] s (State.takePage s p q) := by
  unfold State.takePage
  repeat' first
    | decide
    | with_reducible apply Touches.refl
    | with_reducible apply Touches.ite
    | with_reducible apply Touches.back (State.setPage_touches ..)
    | with_reducible apply Touches.back (State.setSendQueue_touches ..)
    | with_reducible apply Touches.back (State.startSending_touches ..)
    | with_reducible apply Touches.back (State.setLink_touches ..)
    | with_reducible apply Touches.back (State.linkPump_touches ..)
    | with_reducible apply Touches.foldlBack
    | intro _ _

theorem State.readLinkPiece_touches (s : State) (c : SendCtx) (i x : Nat) : Touches [.link] s (State.readLinkPiece s c i x) := by
  unfold State.readLinkPiece
  repeat' first
    | decide
    | with_reducible apply Touches.refl
    | with_reducible apply Touches.ite
    | with_reducible apply Touches.back (State.withLink_touches ..)
    | with_reducible apply Touches.back (State.linkPump_touches ..)

theorem State.storyComplete_touches (s : State) (c : SendCtx) (i : Nat) : Touches [.stories, .pages, .marks] s (State.storyComplete s c i) := by
  unfold State.storyComplete
  repeat' first
    | decide
    | with_reducible apply Touches.refl
    | with_reducible apply Touches.ite
    | with_reducible apply Touches.back (State.setPage_touches ..)
    | with_reducible apply Touches.back (State.setStory_touches ..)

theorem State.sendComplete_touches (s : State) (c : SendCtx) : Touches [.pages, .notices, .link, .marks] s (State.sendComplete s c) := by
  unfold State.sendComplete
  repeat' first
    | decide
    | with_reducible apply Touches.refl
    | with_reducible apply Touches.ite
    | with_reducible apply Touches.back (State.setPage_touches ..)
    | with_reducible apply Touches.back (State.notify_touches ..)
    | with_reducible apply Touches.back (State.setLink_touches ..)

theorem State.frameComplete_touches (s : State) (c : SendCtx) (o : Origin) : Touches [.stories, .pages, .notices, .link, .marks] s (State.frameComplete s c o) := by
  unfold State.frameComplete
  repeat' first
    | decide
    | with_reducible apply Touches.refl
    | with_reducible apply Touches.ite
    | with_reducible apply Touches.back (State.storyComplete_touches ..)
    | with_reducible apply Touches.back (State.linkPump_touches ..)
    | with_reducible apply Touches.back (State.sendComplete_touches ..)
    | split

theorem State.stopSending_touches (s : State) (n : Nat) : Touches [.stories, .marks] s (State.stopSending s n) := by
  unfold State.stopSending
  repeat' first
    | decide
    | with_reducible apply Touches.refl
    | with_reducible apply Touches.ite
    | with_reducible apply Touches.back (State.setStory_touches ..)

theorem State.linkFault_touches (s : State) (c : SendCtx) (cause : Cause) : Touches [.stories, .pages, .notices, .link, .marks] s (State.linkFault s c cause) := by
  unfold State.linkFault
  repeat' first
    | decide
    | with_reducible apply Touches.refl
    | with_reducible apply Touches.ite
    | with_reducible apply Touches.back (State.setPage_touches ..)
    | with_reducible apply Touches.back (State.stopSending_touches ..)
    | with_reducible apply Touches.back (State.notify_touches ..)
    | with_reducible apply Touches.back (State.setLink_touches ..)
    | with_reducible apply Touches.foldlBack
    | intro _ _

theorem State.runLine_touches (s : State) (n : Nat) (l : Line) : Touches [.lines, .marks] s (State.runLine s n l) := by
  unfold State.runLine
  repeat' first
    | decide
    | with_reducible apply Touches.refl
    | with_reducible apply Touches.ite
    | with_reducible apply Touches.back (State.setLine_touches ..)

theorem State.dropChanged_touches (s : State) (n drop : Nat) (before after : Drop) : Touches [.notices, .terms, .marks] s (State.dropChanged s n drop before after) := by
  unfold State.dropChanged
  repeat' first
    | decide
    | with_reducible apply Touches.refl
    | with_reducible apply Touches.ite
    | with_reducible apply Touches.back (State.notify_touches ..)
    | with_reducible apply Touches.back (State.markAllDirty_touches ..)
    | split
    | dsimp only

theorem State.endPoll_touches (s : State) (n : Nat) (answered : Bool) : Touches [.notices, .terms, .lines, .marks] s (State.endPoll s n answered) := by
  unfold State.endPoll
  repeat' first
    | decide
    | with_reducible apply Touches.refl
    | with_reducible apply Touches.ite
    | with_reducible apply Touches.back (State.runLine_touches ..)
    | with_reducible apply Touches.back (State.dropChanged_touches ..)
    | split
    | dsimp only

theorem State.deliverKey_touches (s : State) (n t : Nat) (k : KeyKind) (c : Byte) : Touches [.lines, .notices, .marks] s (State.deliverKey s n t k c) := by
  unfold State.deliverKey
  repeat' first
    | decide
    | with_reducible apply Touches.refl
    | with_reducible apply Touches.ite
    | with_reducible apply Touches.back (State.setLine_touches ..)
    | with_reducible apply Touches.back (State.setLineFlag_touches ..)
    | split

theorem State.countAnswerFrame_touches (s : State) (n : Nat) (isKey : Bool) : Touches [.lines, .marks] s (State.countAnswerFrame s n isKey) := by
  unfold State.countAnswerFrame
  repeat' first
    | decide
    | with_reducible apply Touches.refl
    | with_reducible apply Touches.ite
    | with_reducible apply Touches.back (State.setLine_touches ..)

theorem State.answerFrame_touches (s : State) (n : Nat) (f : RxFrame) : Touches [.notices, .terms, .lines, .marks] s (State.answerFrame s n f) := by
  unfold State.answerFrame
  repeat' first
    | decide
    | with_reducible apply Touches.refl
    | with_reducible apply Touches.ite
    | with_reducible apply Touches.back (State.mark_touches ..)
    | with_reducible apply Touches.back (State.countAnswerFrame_touches ..)
    | with_reducible apply Touches.back (State.endPoll_touches ..)
    | with_reducible apply Touches.back (State.setLineFlag_touches ..)
    | with_reducible apply Touches.back (State.answer_touches ..)
    | with_reducible apply Touches.back (State.deliverKey_touches ..)
    | split
    | dsimp only

theorem State.routeFrame_touches (s : State) (n : Nat) (solicited : Bool) (v : FrameVerdict) (f : RxFrame) : Touches [.notices, .terms, .lines, .marks] s (State.routeFrame s n solicited v f) := by
  unfold State.routeFrame
  repeat' first
    | decide
    | with_reducible apply Touches.refl
    | with_reducible apply Touches.ite
    | with_reducible apply Touches.back (State.deliverKey_touches ..)
    | with_reducible apply Touches.back (State.setLineFlag_touches ..)
    | with_reducible apply Touches.back (State.answerFrame_touches ..)
    | with_reducible apply Touches.back (State.countAnswerFrame_touches ..)
    | split

theorem State.completeFrame_touches (s : State) (n : Nat) (solicited : Bool) (f : RxFrame) : Touches [.notices, .terms, .lines, .marks] s (State.completeFrame s n solicited f) := by
  unfold State.completeFrame
  repeat' first
    | decide
    | with_reducible apply Touches.refl
    | with_reducible apply Touches.ite
    | with_reducible apply Touches.back (State.setLine_touches ..)
    | with_reducible apply Touches.back (State.routeFrame_touches ..)

theorem State.breakOn_touches (s : State) (n : Nat) : Touches [.notices, .terms, .lines, .marks] s (State.breakOn s n) := by
  unfold State.breakOn
  repeat' first
    | decide
    | with_reducible apply Touches.refl
    | with_reducible apply Touches.ite
    | with_reducible apply Touches.back (State.setLine_touches ..)
    | with_reducible apply Touches.back (State.deliverKey_touches ..)
    | with_reducible apply Touches.back (State.setLineFlag_touches ..)
    | with_reducible apply Touches.back (State.endPoll_touches ..)
    | split
    | dsimp only

theorem doLineclear_touches (r : Request) (s : State) : Touches [.lines, .engine, .marks] s (doLineclear r s) := by
  unfold doLineclear
  repeat' first
    | decide
    | with_reducible apply Touches.refl
    | with_reducible apply Touches.ite
    | with_reducible apply Touches.back (State.answer_touches ..)
    | with_reducible apply Touches.back (State.setLine_touches ..)
    | with_reducible apply Touches.back (State.mark_touches ..)

theorem State.setRing_touches (s : State) (t : Nat) (g : Ring) : Touches [.terms, .marks] s (State.setRing s t g) := by
  unfold State.setRing
  repeat' first
    | decide
    | with_reducible apply Touches.refl
    | with_reducible apply Touches.ite
    | with_reducible apply Touches.back (State.setTerm_touches ..)

theorem State.keyloss_touches (s : State) (t : Nat) (c : Cause) (story : Nat) : Touches [.notices] s (State.keyloss s t c story) := by
  unfold State.keyloss
  repeat' first
    | decide
    | with_reducible apply Touches.refl
    | with_reducible apply Touches.ite
    | with_reducible apply Touches.back (State.notify_touches ..)

theorem State.loseToFullRing_touches (s : State) (t : Nat) (g : Ring) : Touches [.terms, .mem, .notices, .stories, .copyfit, .marks] s (State.loseToFullRing s t g) := by
  unfold State.loseToFullRing
  repeat' first
    | decide
    | with_reducible apply Touches.refl
    | with_reducible apply Touches.ite
    | with_reducible apply Touches.back (State.keyloss_touches ..)
    | with_reducible apply Touches.back (State.setRing_touches ..)
    | with_reducible apply Touches.back (State.writeBytes_touches ..)
    | with_reducible apply Touches.back (State.uncountedWrite_touches ..)
    | split
    | dsimp only

theorem State.writeKey_touches (s : State) (t : Nat) (g : Ring) (k : KeyRec) : Touches [.terms, .mem, .notices, .stories, .copyfit, .marks] s (State.writeKey s t g k) := by
  unfold State.writeKey
  repeat' first
    | decide
    | with_reducible apply Touches.refl
    | with_reducible apply Touches.ite
    | with_reducible apply Touches.back (State.keyloss_touches ..)
    | with_reducible apply Touches.back (State.enterRecount_touches ..)
    | with_reducible apply Touches.back (State.setRing_touches ..)
    | with_reducible apply Touches.back (State.writeBytes_touches ..)
    | with_reducible apply Touches.foldlBack
    | intro _ _
    | split
    | dsimp only

theorem State.keyGranted_touches (s : State) (n : Nat) (k : KeyRec) : Touches [.terms, .mem, .notices, .stories, .copyfit, .lines, .marks] s (State.keyGranted s n k) := by
  unfold State.keyGranted
  repeat' first
    | decide
    | with_reducible apply Touches.refl
    | with_reducible apply Touches.ite
    | with_reducible apply Touches.back (State.setLine_touches ..)
    | with_reducible apply Touches.back (State.loseToFullRing_touches ..)
    | with_reducible apply Touches.back (State.writeKey_touches ..)
    | split
    | dsimp only

theorem State.keyServed_touches (s : State) (n : Nat) : Touches [.terms, .mem, .notices, .stories, .copyfit, .lines, .marks] s (State.keyServed s n) := by
  unfold State.keyServed
  repeat' first
    | decide
    | with_reducible apply Touches.refl
    | with_reducible apply Touches.ite
    | with_reducible apply Touches.back (State.keyGranted_touches ..)
    | split

theorem State.headerGranted_touches (s : State) (t : Nat) (g : Ring) : Touches [.terms, .mem, .stories, .copyfit, .marks] s (State.headerGranted s t g) := by
  unfold State.headerGranted
  repeat' first
    | decide
    | with_reducible apply Touches.refl
    | with_reducible apply Touches.ite
    | with_reducible apply Touches.back (State.setRing_touches ..)
    | with_reducible apply Touches.back (State.writeBytes_touches ..)
    | with_reducible apply Touches.back (State.uncountedWrite_touches ..)
    | split
    | dsimp only

theorem State.headerServed_touches (s : State) (t : Nat) : Touches [.terms, .mem, .stories, .copyfit, .marks] s (State.headerServed s t) := by
  unfold State.headerServed
  repeat' first
    | decide
    | with_reducible apply Touches.refl
    | with_reducible apply Touches.ite
    | with_reducible apply Touches.back (State.headerGranted_touches ..)
    | split

theorem State.ringConsumerDrained_touches (s : State) (t v : Nat) : Touches [.terms, .marks] s (State.ringConsumerDrained s t v) := by
  unfold State.ringConsumerDrained
  repeat' first
    | decide
    | with_reducible apply Touches.refl
    | with_reducible apply Touches.ite
    | with_reducible apply Touches.back (State.setRing_touches ..)
    | split

theorem State.endVisit_touches (s : State) (t : Nat) : Touches [.scanner] s (State.endVisit s t) := by
  unfold State.endVisit
  repeat' first
    | decide
    | with_reducible apply Touches.refl
    | with_reducible apply Touches.ite
    | with_reducible apply Touches.back (State.withScanner_touches ..)

theorem State.takeRow_touches (s : State) (t r : Nat) (snapshot : List Byte) : Touches [.terms, .lines, .marks] s (State.takeRow s t r snapshot) := by
  unfold State.takeRow
  repeat' first
    | decide
    | with_reducible apply Touches.refl
    | with_reducible apply Touches.ite
    | with_reducible apply Touches.back (State.setTerm_touches ..)
    | with_reducible apply Touches.back (State.runLine_touches ..)

theorem State.takeStatusRow_touches (s : State) (t : Nat) : Touches [.terms, .lines, .marks] s (State.takeStatusRow s t) := by
  unfold State.takeStatusRow
  repeat' first
    | decide
    | with_reducible apply Touches.refl
    | with_reducible apply Touches.ite
    | with_reducible apply Touches.back (State.setTerm_touches ..)
    | with_reducible apply Touches.back (State.takeRow_touches ..)

theorem State.askRow_touches (s : State) (v : Visit) : Touches [.scanner] s (State.askRow s v) := by
  unfold State.askRow
  repeat' first
    | decide
    | with_reducible apply Touches.refl
    | with_reducible apply Touches.ite
    | with_reducible apply Touches.back (State.withScanner_touches ..)
    | with_reducible apply Touches.back (State.endVisit_touches ..)
    | split

theorem State.visitOn_touches (s : State) (v : Visit) : Touches [.terms, .lines, .scanner, .marks] s (State.visitOn s v) := by
  unfold State.visitOn
  repeat' first
    | decide
    | with_reducible apply Touches.refl
    | with_reducible apply Touches.ite
    | with_reducible apply Touches.back (State.endVisit_touches ..)
    | with_reducible apply Touches.back (State.takeStatusRow_touches ..)
    | with_reducible apply Touches.back (State.askRow_touches ..)

theorem State.rowReadDone_touches (s : State) (k : Take) (v : Visit) : Touches [.terms, .lines, .scanner, .marks] s (State.rowReadDone s k v) := by
  unfold State.rowReadDone
  repeat' first
    | decide
    | with_reducible apply Touches.refl
    | with_reducible apply Touches.ite
    | with_reducible apply Touches.back (State.withScanner_touches ..)
    | with_reducible apply Touches.back (State.endVisit_touches ..)
    | with_reducible apply Touches.back (State.takeRow_touches ..)
    | with_reducible apply Touches.back (State.visitOn_touches ..)

theorem State.refuseWrite_touches (s : State) (r : Refused) : Touches [.notices, .marks] s (State.refuseWrite s r) := by
  unfold State.refuseWrite
  repeat' first
    | decide
    | with_reducible apply Touches.refl
    | with_reducible apply Touches.ite
    | with_reducible apply Touches.back (State.notify_touches ..)
    | with_reducible apply Touches.back (State.setRefusedFlag_touches ..)

theorem State.busform_touches (s : State) (a n : Nat) (c : Cause) : Touches [.notices] s (State.busform s a n c) := by
  unfold State.busform
  repeat' first
    | decide
    | with_reducible apply Touches.refl
    | with_reducible apply Touches.ite
    | with_reducible apply Touches.back (State.notify_touches ..)

theorem State.completeRead_touches (s : State) (r : ReadWait) : Touches [.free, .path] s (State.completeRead s r) := by
  unfold State.completeRead
  repeat' first
    | decide
    | with_reducible apply Touches.refl
    | with_reducible apply Touches.ite
    | with_reducible apply Touches.back (State.withPath_touches ..)
    | with_reducible apply Touches.back (State.withFree_touches ..)

theorem State.presentRead_touches (s : State) (a n : Nat) : Touches [.notices, .path] s (State.presentRead s a n) := by
  unfold State.presentRead
  repeat' first
    | decide
    | with_reducible apply Touches.refl
    | with_reducible apply Touches.ite
    | with_reducible apply Touches.back (State.busform_touches ..)
    | with_reducible apply Touches.back (State.withPath_touches ..)

theorem State.enqueue_touches (s : State) (a : Nat) (bs : List Byte) (members : List (List Membership)) :
    Touches [.path] s (s.enqueue a bs members) := State.withPath_touches s _

theorem State.latchContext_touches (s : State) (a : Nat) (bs : List Byte) : Touches [.path] s (State.latchContext s a bs) := by
  unfold State.latchContext
  repeat' first
    | decide
    | with_reducible apply Touches.refl
    | with_reducible apply Touches.ite
    | with_reducible apply Touches.back (State.withPath_touches ..)

theorem State.acceptWrite_touches (s : State) (a : Nat) (bs : List Byte) : Touches [.path, .notices, .marks] s (State.acceptWrite s a bs) := by
  unfold State.acceptWrite
  repeat' first
    | decide
    | with_reducible apply Touches.refl
    | with_reducible apply Touches.ite
    | with_reducible apply Touches.back (State.setRefusedFlag_touches ..)
    | with_reducible apply Touches.back (State.busform_touches ..)
    | with_reducible apply Touches.back (State.enqueue_touches ..)
    | with_reducible apply Touches.back (State.latchContext_touches ..)

theorem State.enterAligned_touches (s : State) (a : Nat) (bs : List Byte) : Touches [.path, .notices, .marks] s (State.enterAligned s a bs) := by
  unfold State.enterAligned
  repeat' first
    | decide
    | with_reducible apply Touches.refl
    | with_reducible apply Touches.ite
    | with_reducible apply Touches.back (State.enqueue_touches ..)
    | with_reducible apply Touches.back (State.latchContext_touches ..)
    | with_reducible apply Touches.back (State.refuseWrite_touches ..)
    | with_reducible apply Touches.back (State.acceptWrite_touches ..)
    | split

theorem State.enterMisaligned_touches (s : State) (a : Nat) (bs : List Byte) : Touches [.path, .notices, .marks] s (State.enterMisaligned s a bs) := by
  unfold State.enterMisaligned
  repeat' first
    | decide
    | with_reducible apply Touches.refl
    | with_reducible apply Touches.ite
    | with_reducible apply Touches.back (State.enqueue_touches ..)
    | with_reducible apply Touches.back (State.busform_touches ..)

theorem State.enterWrite_touches (s : State) (a : Nat) (bs : List Byte) : Touches [.path, .notices, .marks] s (State.enterWrite s a bs) := by
  unfold State.enterWrite
  repeat' first
    | decide
    | with_reducible apply Touches.refl
    | with_reducible apply Touches.ite
    | with_reducible apply Touches.back (State.enterAligned_touches ..)
    | with_reducible apply Touches.back (State.enterMisaligned_touches ..)

theorem State.presentWrite_touches (s : State) (a : Nat) (bs : List Byte) : Touches [.path, .notices, .marks] s (State.presentWrite s a bs) := by
  unfold State.presentWrite
  repeat' first
    | decide
    | with_reducible apply Touches.refl
    | with_reducible apply Touches.ite
    | with_reducible apply Touches.back (State.withPath_touches ..)
    | with_reducible apply Touches.back (State.enterWrite_touches ..)

theorem State.noticeConsumerDrained_touches (s : State) (v : Nat) : Touches [.notices, .pins] s (State.noticeConsumerDrained s v) := by
  unfold State.noticeConsumerDrained
  repeat' first
    | decide
    | with_reducible apply Touches.refl
    | with_reducible apply Touches.ite
    | with_reducible apply Touches.back (State.withNotices_touches ..)
    | with_reducible apply Touches.back (State.driveAttn_touches ..)

theorem State.requestProducerDrained_touches (s : State) (v : Nat) : Touches [.engine] s (State.requestProducerDrained s v) := by
  unfold State.requestProducerDrained
  repeat' first
    | decide
    | with_reducible apply Touches.refl
    | with_reducible apply Touches.ite
    | with_reducible apply Touches.back (State.withEngine_touches ..)

theorem State.handOver_touches (a : Nat) (old new : Byte) (value : Nat) (s : State) (m : Membership) :
    Touches [.stories, .copyfit, .terms, .engine, .notices, .pins, .marks] s (State.handOver a old new value s m) := by
  unfold State.handOver
  repeat' first
    | decide
    | with_reducible apply Touches.refl
    | with_reducible apply Touches.ite
    | with_reducible apply Touches.back (State.textDrained_touches ..)
    | with_reducible apply Touches.back (State.markScreens_touches ..)
    | with_reducible apply Touches.back (State.requestProducerDrained_touches ..)
    | with_reducible apply Touches.back (State.noticeConsumerDrained_touches ..)
    | with_reducible apply Touches.back (State.ringConsumerDrained_touches ..)
    | split

theorem State.handOverBytes_touches (value : Nat) (s : State) (a : Nat) (olds news : List Byte)
    (mss : List (List Membership)) :
    Touches [.stories, .copyfit, .terms, .engine, .notices, .pins, .marks] s
      (State.handOverBytes value s a olds news mss) := by
  induction olds generalizing s a news mss with
  | nil => exact Touches.refl _ s
  | cons o olds ih =>
    cases news with
    | nil => exact Touches.refl _ s
    | cons n news =>
      cases mss with
      | nil => exact Touches.refl _ s
      | cons ms mss =>
        exact Touches.trans (Touches.foldl (fun s m => State.handOver_touches a o n value s m) ms s) (ih _ _ _ _)

theorem State.drainToMemory_touches (s : State) (e : Entry) (q : List Entry) : Touches [.path, .mem, .copyfit, .link] s (State.drainToMemory s e q) := by
  unfold State.drainToMemory
  repeat' first
    | decide
    | with_reducible apply Touches.refl
    | with_reducible apply Touches.ite
    | with_reducible apply Touches.back (State.withPath_touches ..)
    | with_reducible apply Touches.back (State.writeBytes_touches ..)
    | with_reducible apply Touches.back (State.announceDrain_touches ..)

theorem State.drainEffects_touches (s : State) (e : Entry) (olds : List Byte) : Touches [.stories, .copyfit, .terms, .engine, .notices, .pins, .marks] s (State.drainEffects s e olds) := by
  unfold State.drainEffects
  repeat' first
    | decide
    | with_reducible apply Touches.refl
    | with_reducible apply Touches.ite
    | with_reducible apply Touches.back (State.handOverBytes_touches ..)
    | with_reducible apply Touches.back (State.uncountedWrite_touches ..)

theorem State.drainOldest_touches (s : State) : Touches [.path, .mem, .link, .stories, .copyfit, .terms, .engine, .notices, .pins, .marks] s (State.drainOldest s) := by
  unfold State.drainOldest
  repeat' first
    | decide
    | with_reducible apply Touches.refl
    | with_reducible apply Touches.ite
    | with_reducible apply Touches.back (State.drainToMemory_touches ..)
    | with_reducible apply Touches.back (State.drainEffects_touches ..)
    | split

theorem State.applyConfig_touches (s : State) (c : LoadedConfig) : Touches [.lines, .terms, .scanner, .link, .clock] s (State.applyConfig s c) := by
  unfold State.applyConfig
  repeat' first
    | decide
    | with_reducible apply Touches.refl
    | with_reducible apply Touches.ite
    | with_reducible apply Touches.back (State.withLines_touches ..)
    | with_reducible apply Touches.back (State.withTerms_touches ..)
    | with_reducible apply Touches.back (State.withScanner_touches ..)
    | with_reducible apply Touches.back (State.withLink_touches ..)
    | with_reducible apply Touches.back (State.withClock_touches ..)

theorem State.haltLine_touches (s : State) (n : Nat) : Touches [.lines, .marks] s (State.haltLine s n) := by
  unfold State.haltLine
  repeat' first
    | decide
    | with_reducible apply Touches.refl
    | with_reducible apply Touches.ite
    | with_reducible apply Touches.back (State.setLine_touches ..)

theorem State.haltBlocks_touches (s : State) : Touches [.lines, .terms, .scanner, .link, .stories, .copyfit, .marks] s (State.haltBlocks s) := by
  unfold State.haltBlocks
  repeat' first
    | decide
    | with_reducible apply Touches.refl
    | with_reducible apply Touches.ite
    | with_reducible apply Touches.back (State.haltLine_touches ..)
    | with_reducible apply Touches.back (State.joinRecount_touches ..)
    | with_reducible apply Touches.back (State.withLink_touches ..)
    | with_reducible apply Touches.back (State.withTerms_touches ..)
    | with_reducible apply Touches.back (State.withScanner_touches ..)
    | with_reducible apply Touches.foldlBack
    | intro _ _

theorem State.enterPassThrough_touches (s : State) : Touches [.lines, .terms, .scanner, .link, .stories, .copyfit, .part, .cause, .notices, .pins, .engine, .marks] s (State.enterPassThrough s) := by
  unfold State.enterPassThrough
  repeat' first
    | decide
    | with_reducible apply Touches.refl
    | with_reducible apply Touches.ite
    | with_reducible apply Touches.back (State.haltBlocks_touches ..)
    | with_reducible apply Touches.back (State.withPart_touches ..)
    | with_reducible apply Touches.back (State.withCause_touches ..)
    | with_reducible apply Touches.back (State.mark_touches ..)
    | with_reducible apply Touches.back (State.notify_touches ..)
    | with_reducible apply Touches.back (State.driveAttn_touches ..)
    | with_reducible apply Touches.back (State.answer_touches ..)

theorem doReload_touches (r : Request) (s : State) : Touches [.engine] s (doReload r s) := by
  unfold doReload
  repeat' first
    | decide
    | with_reducible apply Touches.refl
    | with_reducible apply Touches.ite
    | with_reducible apply Touches.back (State.answer_touches ..)
    | with_reducible apply Touches.back (State.withEngine_touches ..)

theorem State.validate_touches (s : State) (bytes : List Byte) : Touches [.lines, .terms, .scanner, .link, .stories, .copyfit, .part, .cause, .notices, .pins, .engine, .marks] s (State.validate s bytes) := by
  unfold State.validate
  repeat' first
    | decide
    | with_reducible apply Touches.refl
    | with_reducible apply Touches.ite
    | with_reducible apply Touches.back (State.withEngine_touches ..)
    | with_reducible apply Touches.back (State.enterPassThrough_touches ..)

theorem State.reloadPiece_touches (s : State) (bytes : List Byte) : Touches [.lines, .terms, .scanner, .link, .stories, .copyfit, .part, .cause, .notices, .pins, .engine, .marks] s (State.reloadPiece s bytes) := by
  unfold State.reloadPiece
  repeat' first
    | decide
    | with_reducible apply Touches.refl
    | with_reducible apply Touches.ite
    | with_reducible apply Touches.back (State.validate_touches ..)
    | with_reducible apply Touches.back (State.withEngine_touches ..)

theorem State.advanceConsumer_touches (s : State) : Touches [.engine] s (State.advanceConsumer s) := by
  unfold State.advanceConsumer
  repeat' first
    | decide
    | with_reducible apply Touches.refl
    | with_reducible apply Touches.ite
    | with_reducible apply Touches.back (State.withEngine_touches ..)

theorem State.moveBase_touches (s : State) (b : Nat) : Touches [.base, .path, .engine, .notices] s (State.moveBase s b) := by
  unfold State.moveBase
  repeat' first
    | decide
    | with_reducible apply Touches.refl
    | with_reducible apply Touches.ite
    | with_reducible apply Touches.back (State.withBase_touches ..)
    | with_reducible apply Touches.back (State.withPath_touches ..)
    | with_reducible apply Touches.back (State.withEngine_touches ..)
    | with_reducible apply Touches.back (State.withNotices_touches ..)

theorem State.completeReload_touches (s : State) (c : LoadedConfig) (move : Option Nat) : Touches [.base, .path, .engine, .notices, .lines, .terms, .scanner, .link, .clock, .part, .cause, .pins, .marks] s (State.completeReload s c move) := by
  unfold State.completeReload
  repeat' first
    | decide
    | with_reducible apply Touches.refl
    | with_reducible apply Touches.ite
    | with_reducible apply Touches.back (State.moveBase_touches ..)
    | with_reducible apply Touches.back (State.advanceConsumer_touches ..)
    | with_reducible apply Touches.back (State.applyConfig_touches ..)
    | with_reducible apply Touches.back (State.withPart_touches ..)
    | with_reducible apply Touches.back (State.withCause_touches ..)
    | with_reducible apply Touches.back (State.markAll_touches ..)
    | with_reducible apply Touches.back (State.withEngine_touches ..)
    | with_reducible apply Touches.back (State.withNotices_touches ..)
    | with_reducible apply Touches.back (State.driveAttn_touches ..)
    | split

theorem State.outcomeServed_touches (s : State) (o : ReqOutcome) (note : Nat) (after : AfterOutcome) : Touches [.base, .path, .engine, .notices, .lines, .terms, .scanner, .link, .clock, .part, .cause, .pins, .mem, .marks] s (State.outcomeServed s o note after) := by
  unfold State.outcomeServed
  repeat' first
    | decide
    | with_reducible apply Touches.refl
    | with_reducible apply Touches.ite
    | with_reducible apply Touches.back (State.writeBytes_touches ..)
    | with_reducible apply Touches.back (State.advanceConsumer_touches ..)
    | with_reducible apply Touches.back (State.completeReload_touches ..)
    | split

theorem State.writeOutcome_touches (s : State) : Touches [.base, .path, .engine, .notices, .lines, .terms, .scanner, .link, .clock, .part, .cause, .pins, .mem, .marks] s (State.writeOutcome s) := by
  unfold State.writeOutcome
  repeat' first
    | decide
    | with_reducible apply Touches.refl
    | with_reducible apply Touches.ite
    | with_reducible apply Touches.back (State.outcomeServed_touches ..)
    | split

theorem State.writeConsumerWord_touches (s : State) : Touches [.mem, .engine] s (State.writeConsumerWord s) := by
  unfold State.writeConsumerWord
  repeat' first
    | decide
    | with_reducible apply Touches.refl
    | with_reducible apply Touches.ite
    | with_reducible apply Touches.back (State.withEngine_touches ..)
    | with_reducible apply Touches.back (State.writeBytes_touches ..)

theorem State.writeProducerWord_touches (s : State) : Touches [.mem, .notices] s (State.writeProducerWord s) := by
  unfold State.writeProducerWord
  repeat' first
    | decide
    | with_reducible apply Touches.refl
    | with_reducible apply Touches.ite
    | with_reducible apply Touches.back (State.withNotices_touches ..)
    | with_reducible apply Touches.back (State.writeBytes_touches ..)

theorem State.writeNotice_touches (s : State) : Touches [.mem, .notices, .pins] s (State.writeNotice s) := by
  unfold State.writeNotice
  repeat' first
    | decide
    | with_reducible apply Touches.refl
    | with_reducible apply Touches.ite
    | with_reducible apply Touches.back (State.writeBytes_touches ..)
    | with_reducible apply Touches.back (State.withNotices_touches ..)
    | with_reducible apply Touches.back (State.driveAttn_touches ..)
    | split

end Sys2Proof.Machine
end

