-- ==== Sys2Proof/Laws/Memory.lean ====
section
/-! SUPPORT. Main memory: what is read after a write, and the canonical form kept by every operation. -/

namespace Sys2Proof.Machine

theorem Memory.read_filter (m : Memory) (x y : Nat) (h : y ≠ x) :
    Memory.read (m.filter (fun c => c.1 ≠ x)) y = Memory.read m y := by
  induction m with
  | nil => rfl
  | cons c m ih =>
    obtain ⟨a, b⟩ := c
    by_cases ha : a = x
    · subst ha
      simp only [ne_eq, decide_not, List.filter_cons, decide_true, Bool.not_true, Memory.read, if_neg h]
      simpa using ih
    · simp only [ne_eq, decide_not, List.filter_cons, ha, decide_false, Bool.not_false, if_true, Memory.read]
      by_cases hy : y = a
      · simp [hy]
      · simpa [hy] using ih

theorem Memory.read_absent (m : Memory) (x : Nat) (h : ∀ c ∈ m, c.1 ≠ x) : Memory.read m x = Config.unlistedByte := by
  induction m with
  | nil => rfl
  | cons c m ih =>
    obtain ⟨a, b⟩ := c
    have : x ≠ a := fun e => h (a, b) (by simp) e.symm
    simp only [Memory.read, if_neg this]
    exact ih (fun c hc => h c (by simp [hc]))

theorem Memory.read_insert_self (m : Memory) (x : Nat) (v : Byte) (h : ∀ c ∈ m, c.1 ≠ x) :
    Memory.read (m.insert x v) x = v := by
  induction m with
  | nil =>
    unfold Memory.insert
    split
    · next e => simp [Memory.read, e]
    · simp [Memory.read]
  | cons c m ih =>
    obtain ⟨a, b⟩ := c
    have hx : x ≠ a := fun e => h (a, b) (by simp) e.symm
    unfold Memory.insert
    split
    · simp only [Memory.read, if_neg hx]
      exact ih (fun c hc => h c (by simp [hc]))
    · split
      · next e => rw [Memory.read_absent _ x h, e]
      · simp [Memory.read]

theorem Memory.read_insert_ne (m : Memory) (x y : Nat) (v : Byte) (h : y ≠ x) :
    Memory.read (m.insert x v) y = Memory.read m y := by
  induction m with
  | nil =>
    unfold Memory.insert
    split
    · rfl
    · simp [Memory.read, h]
  | cons c m ih =>
    obtain ⟨a, b⟩ := c
    unfold Memory.insert
    split
    · simp only [Memory.read, ih]
    · split
      · rfl
      · simp only [Memory.read, if_neg h]

/-- The byte written is the byte read, and every other address reads as before. -/
theorem Memory.read_write (m : Memory) (x y : Nat) (v : Byte) :
    Memory.read (m.write x v) y = if y = x then v else Memory.read m y := by
  unfold Memory.write
  split
  · next e =>
    subst e
    exact Memory.read_insert_self _ y v (fun c hc => by simpa using (List.mem_filter.mp hc).2)
  · next e => rw [Memory.read_insert_ne _ x y v e, Memory.read_filter m x y e]

theorem Memory.wf_cons {a : Nat} {b : Byte} {m : Memory} :
    Memory.wf ((a, b) :: m) = true ↔ b ≠ Config.unlistedByte ∧ (∀ c ∈ m, a < c.1) ∧ Memory.wf m = true := by
  simp [Memory.wf, and_assoc]

theorem Memory.wf_filter (m : Memory) (p : Host.Cell → Bool) (h : Memory.wf m = true) : Memory.wf (m.filter p) = true := by
  induction m with
  | nil => rfl
  | cons c m ih =>
    obtain ⟨a, b⟩ := c
    obtain ⟨h1, h2, h3⟩ := Memory.wf_cons.mp h
    rw [List.filter_cons]
    split
    · exact Memory.wf_cons.mpr ⟨h1, fun c hc => h2 c (List.mem_filter.mp hc).1, ih h3⟩
    · exact ih h3

theorem Memory.mem_insert {m : Memory} {x : Nat} {v : Byte} {c : Host.Cell} (h : c ∈ m.insert x v) : c = (x, v) ∨ c ∈ m := by
  induction m with
  | nil =>
    unfold Memory.insert at h
    split at h <;> simp_all
  | cons d m ih =>
    obtain ⟨a, b⟩ := d
    unfold Memory.insert at h
    split at h
    · rcases List.mem_cons.mp h with e | e
      · exact .inr (by simp [e])
      · rcases ih e with e | e
        · exact .inl e
        · exact .inr (by simp [e])
    · split at h
      · exact .inr h
      · rcases List.mem_cons.mp h with e | e
        · exact .inl e
        · exact .inr e

theorem Memory.wf_insert (m : Memory) (x : Nat) (v : Byte) (h : Memory.wf m = true) (hx : ∀ c ∈ m, c.1 ≠ x) :
    Memory.wf (m.insert x v) = true := by
  induction m with
  | nil =>
    unfold Memory.insert
    split
    · rfl
    · next e => exact Memory.wf_cons.mpr ⟨e, by simp, rfl⟩
  | cons c m ih =>
    obtain ⟨a, b⟩ := c
    obtain ⟨h1, h2, h3⟩ := Memory.wf_cons.mp h
    unfold Memory.insert
    split
    · next e =>
      refine Memory.wf_cons.mpr ⟨h1, ?_, ih h3 (fun c hc => hx c (by simp [hc]))⟩
      intro c hc
      rcases Memory.mem_insert hc with e' | e'
      · simp only [e']; exact e
      · exact h2 c e'
    · next e =>
      split
      · exact h
      · next e' =>
        refine Memory.wf_cons.mpr ⟨e', ?_, h⟩
        intro c hc
        have ha : a ≠ x := hx (a, b) (by simp)
        rcases List.mem_cons.mp hc with e'' | e''
        · simp only [e'']; omega
        · have := h2 c e''; omega

/-- A write of one byte keeps the canonical form. -/
theorem Memory.wf_write (m : Memory) (x : Nat) (v : Byte) (h : Memory.wf m = true) : Memory.wf (m.write x v) = true :=
  Memory.wf_insert _ x v (Memory.wf_filter m _ h) (fun c hc => by simpa using (List.mem_filter.mp hc).2)

/-- A write of bytes keeps the canonical form. -/
theorem Memory.wf_writeBytes (m : Memory) (a : Nat) (bs : List Byte) (h : Memory.wf m = true) :
    Memory.wf (m.writeBytes a bs) = true := by
  induction bs generalizing m a with
  | nil => exact h
  | cons b bs ih => exact ih (m.write a b) (a + 1) (Memory.wf_write m a b h)

/-- The memory of `State.reset` has the canonical form. -/
theorem State.reset_mem_wf : Memory.wf State.reset.mem = true := rfl

theorem Memory.length_readBytes (m : Memory) (a n : Nat) : (m.readBytes a n).length = n := by
  induction n generalizing a with
  | zero => rfl
  | succ n ih => simp [Memory.readBytes, ih]

end Sys2Proof.Machine
end

