-- ==== Sys2Proof/Laws/Records.lean ====
section
/-! SUPPORT. The records after each setter, by number. -/

namespace Sys2Proof.Machine

theorem State.story_of_stories {s t : State} (h : t.stories = s.stories) (n : Nat) : t.story n = s.story n := by
  unfold State.story; rw [h]

theorem State.basket_of_baskets {s t : State} (h : t.baskets = s.baskets) (b : Nat) : t.basket b = s.basket b := by
  unfold State.basket; rw [h]

theorem State.page_of_pages {s t : State} (h : t.pages = s.pages) (p : Nat) : t.page p = s.page p := by
  unfold State.page; rw [h]

theorem State.edition_of_clock {s t : State} (h : t.clock = s.clock) (e : Nat) : t.edition e = s.edition e := by
  unfold State.edition; rw [h]

theorem State.line_of_lines {s t : State} (h : t.lines = s.lines) (n : Nat) : t.line n = s.line n := by
  unfold State.line; rw [h]

theorem State.term_of_terms {s t : State} (h : t.terms = s.terms) (k : Nat) : t.term k = s.term k := by
  unfold State.term; rw [h]

theorem numbersWhere_eq (p : Story → Bool) (l : List Story) (k : Nat) :
    numbersWhere p k l = (List.range' k l.length).filter (fun n => p (l.getD (n - k) Story.freed)) := by
  induction l generalizing k with
  | nil => rfl
  | cons r l ih =>
    have h : (List.range' (k + 1) l.length).filter (fun n => p ((r :: l).getD (n - k) Story.freed))
        = (List.range' (k + 1) l.length).filter (fun n => p (l.getD (n - (k + 1)) Story.freed)) := by
      apply List.filter_congr
      intro n hn
      have hk : k + 1 ≤ n := (List.mem_range'_1.mp hn).1
      obtain ⟨i, rfl⟩ : ∃ i, n = k + 1 + i := ⟨n - (k + 1), by omega⟩
      have h1 : k + 1 + i - k = i + 1 := by omega
      have h2 : k + 1 + i - (k + 1) = i := by omega
      rw [h1, h2]
      rfl
    simp only [numbersWhere, List.length_cons, List.range'_succ, List.filter_cons, Nat.sub_self, List.getD_cons_zero]
    rw [h, ← ih]

/-- The stories that satisfy `p` are the numbers 1 to 511 whose records do. -/
theorem State.storiesWhere_eq (s : State) (p : Story → Bool) :
    s.storiesWhere p = storyNumbers.filter (fun n => p (s.story n)) := by
  unfold State.storiesWhere
  rw [numbersWhere_eq, s.stories.size_eq]
  apply List.filter_congr
  intro n hn
  have hn1 : 1 ≤ n := (List.mem_range'_1.mp hn).1
  unfold State.story Table.at1 Table.at0
  rw [if_neg (by omega)]

theorem State.storiesWhere_of_stories {s t : State} (h : t.stories = s.stories) (p : Story → Bool) :
    t.storiesWhere p = s.storiesWhere p := by
  unfold State.storiesWhere; rw [h]

theorem State.heldBy_of_stories {s t : State} (h : t.stories = s.stories) (k : Nat) : t.heldBy k = s.heldBy k := by
  unfold State.heldBy; rw [State.storiesWhere_of_stories h]

/-- Story `n` is touched exactly when it is a story number and its block meets the bytes. -/
theorem State.mem_storiesTouched (s : State) (a n m : Nat) :
    m ∈ s.storiesTouched a n ↔ (1 ≤ m ∧ m ≤ 511) ∧ (s.story m).touches a n = true := by
  unfold State.storiesTouched
  rw [State.storiesWhere_eq, List.mem_filter]
  unfold storyNumbers
  rw [List.mem_range'_1]
  constructor <;> rintro ⟨h1, h2⟩ <;> exact ⟨⟨by omega, by omega⟩, h2⟩

/-- A story record after `setStory`. -/
theorem State.story_setStory (s : State) (n m : Nat) (r : Story) :
    (s.setStory n r).story m = if n = m ∧ 1 ≤ n ∧ n ≤ 511 then r else s.story m := by
  unfold State.setStory
  split
  · next e =>
    split
    · next h => rw [← h.1, ← e]
    · rfl
  · rw [State.story_of_stories (State.mark_touches ..).stories_eq]
    exact Table.at1_set1 ..

/-- A page record after `setPage`. -/
theorem State.page_setPage (s : State) (p q : Nat) (r : Page) :
    (s.setPage p r).page q = if p = q ∧ p < 96 then r else s.page q := by
  unfold State.setPage
  split
  · next e =>
    split
    · next h => rw [← h.1, ← e]
    · rfl
  · rw [State.page_of_pages (State.mark_touches ..).pages_eq]
    exact Table.at0_set0 ..

/-- An edition record after `setEdition`. -/
theorem State.edition_setEdition (s : State) (e d : Nat) (r : Edition) :
    (s.setEdition e r).edition d = if e = d ∧ 1 ≤ e ∧ e ≤ 4 then r else s.edition d := by
  unfold State.setEdition
  split
  · next h =>
    split
    · next h' => rw [← h'.1, ← h]
    · rfl
  · rw [State.edition_of_clock (State.mark_touches ..).clock_eq]
    exact Table.at1_set1 ..

/-- A basket's list after `setBasket`. -/
theorem State.basket_setBasket (s : State) (b c : Nat) (l : List Nat) :
    (s.setBasket b l).basket c = if b = c ∧ 1 ≤ b ∧ b ≤ 23 then l else s.basket c := by
  unfold State.setBasket
  have h : ∀ (t : State) (is : List MarkItem), (t.markEach is).basket c = t.basket c := fun t is =>
    State.basket_of_baskets (State.markEach_touches ..).baskets_eq c
  rw [h]
  split
  · exact Table.at1_set1 ..
  · rw [State.basket_of_baskets (State.mark_touches ..).baskets_eq]
    exact Table.at1_set1 ..

/-- A line after `setLine`. -/
theorem State.line_setLine (s : State) (n m : Nat) (l : Line) :
    (s.setLine n l).line m = if n = m ∧ n < 16 then l else s.line m := by
  unfold State.setLine
  dsimp only
  split
  · exact Table.at0_set0 ..
  · rw [State.line_of_lines (State.mark_touches ..).lines_eq]
    exact Table.at0_set0 ..

/-- A terminal after `setTerm`. -/
theorem State.term_setTerm (s : State) (k j : Nat) (r : Terminal) :
    (s.setTerm k r).term j = if k = j ∧ 1 ≤ k ∧ k ≤ 64 then r else s.term j := by
  unfold State.setTerm
  dsimp only
  split
  · exact Table.at1_set1 ..
  · rw [State.term_of_terms (State.mark_touches ..).terms_eq]
    exact Table.at1_set1 ..

end Sys2Proof.Machine
end

