-- ==== Sys2Proof/Laws/Steps.lean ====
section
/-! SUPPORT. What the shared ends and beginnings of steps do: the grant of an operation, the dispatch of a request, and the
composition of the status rows that closes a step. -/

namespace Sys2Proof.Machine

/-! ## The composition of the status rows (R151) -/

theorem StatusRowsOnly.refl (s : State) : StatusRowsOnly s s := fun _ => ⟨rfl, rfl, rfl, fun _ => .inl rfl⟩

theorem StatusRowsOnly.of_terms {s t : State} (h : t.terms = s.terms) : StatusRowsOnly s t := fun k => by
  have e := State.term_of_terms h k
  exact ⟨by rw [e], by rw [e], by rw [e], fun _ => .inl (by rw [e])⟩

theorem StatusRowsOnly.trans {s t u : State} (h1 : StatusRowsOnly s t) (h2 : StatusRowsOnly t u) : StatusRowsOnly s u := by
  intro k
  obtain ⟨a1, a2, a3, a4⟩ := h1 k
  obtain ⟨b1, b2, b3, b4⟩ := h2 k
  refine ⟨b1.trans a1, b2.trans a2, b3.trans a3, fun r => ?_⟩
  rcases b4 r with h | h
  · rcases a4 r with h' | h'
    · exact .inl (h.trans h')
    · exact .inr ⟨h'.1, h.trans h'.2⟩
  · exact .inr h

theorem State.markDirty_rows (s : State) (k : Nat) : StatusRowsOnly s (s.markDirty k 23) := by
  intro j
  unfold State.markDirty
  rw [State.term_setTerm]
  split
  · next h =>
    obtain ⟨rfl, _⟩ := h
    refine ⟨rfl, rfl, rfl, fun r => ?_⟩
    dsimp only
    rw [Table.at0_set0]
    split
    · next h' => exact .inr ⟨h'.1.symm, rfl⟩
    · exact .inl rfl
  · exact ⟨rfl, rfl, rfl, fun _ => .inl rfl⟩

theorem State.composeOne_rows (s0 : State) (all : Bool) (s : State) (k : Nat) :
    StatusRowsOnly s (State.composeOne s0 all s k) := by
  unfold State.composeOne
  split
  · exact State.markDirty_rows s k
  · exact StatusRowsOnly.refl s

theorem State.composeAll_rows (s0 : State) (all : Bool) (l : List Nat) (s : State) :
    StatusRowsOnly s (l.foldl (State.composeOne s0 all) s) := by
  induction l generalizing s with
  | nil => exact StatusRowsOnly.refl s
  | cons k l ih => exact (State.composeOne_rows s0 all s k).trans (ih (State.composeOne s0 all s k))

/-- The composition changes terminals at most in row 23. -/
theorem State.compose_rows (s0 s : State) (force : Bool) : StatusRowsOnly s (State.compose s0 s force) := by
  unfold State.compose
  split
  · exact State.composeAll_rows s0 _ terminalNumbers s
  · exact StatusRowsOnly.refl s

theorem finish_eq (s t : State) : finish s t = .next (State.compose s t false) := rfl

/-- Every meaning that ends in `finish` answers the composed state and no other. -/
theorem finish_next {s t u : State} (h : finish s t = .next u) : u = State.compose s t false := by
  injection h with h
  exact h.symm

/-! ## What the composition reads is not changed by it -/

/-- `t` differs from `s` in dirty rows and marks alone, as the composition leaves it. -/
structure Recomposed (s t : State) : Prop where
  touches : Touches [.terms, .marks] s t
  rows : StatusRowsOnly s t

theorem Recomposed.refl (s : State) : Recomposed s s := ⟨Touches.refl _ s, StatusRowsOnly.refl s⟩

theorem Recomposed.trans {s t u : State} (h1 : Recomposed s t) (h2 : Recomposed t u) : Recomposed s u :=
  ⟨h1.touches.trans h2.touches, h1.rows.trans h2.rows⟩

theorem State.composeOne_recomposed (s0 : State) (all : Bool) (s : State) (k : Nat) :
    Recomposed s (State.composeOne s0 all s k) := ⟨State.composeOne_touches s0 all s k, State.composeOne_rows s0 all s k⟩

theorem State.compose_recomposed (s0 s : State) (force : Bool) : Recomposed s (State.compose s0 s force) :=
  ⟨State.compose_touches s0 s force, State.compose_rows s0 s force⟩

theorem Recomposed.enabled {s t : State} (h : Recomposed s t) (k : Nat) : t.enabled k = s.enabled k := by
  unfold State.enabled
  rw [(h.rows k).1]

theorem Recomposed.overrunMark {s t : State} (h : Recomposed s t) (k : Nat) :
    (t.term k).overrunMark = (s.term k).overrunMark := by
  unfold Terminal.overrunMark
  rw [(h.rows k).2.1]

theorem Recomposed.commonInputs {s t : State} (h : Recomposed s t) : t.commonInputs = s.commonInputs := by
  unfold State.commonInputs State.faultedPages
  rw [h.touches.clock_eq, h.touches.pages_eq]

theorem Recomposed.story {s t : State} (h : Recomposed s t) (n : Nat) : t.story n = s.story n := by
  unfold State.story
  rw [h.touches.stories_eq]

theorem Recomposed.heldBy {s t : State} (h : Recomposed s t) (k : Nat) : t.heldBy k = s.heldBy k := by
  unfold State.heldBy State.storiesWhere
  rw [h.touches.stories_eq]

theorem Recomposed.basketHeader {s t : State} (h : Recomposed s t) (b : Nat) : t.basketHeader b = s.basketHeader b := by
  unfold State.basketHeader State.basket State.story
  rw [h.touches.stories_eq, h.touches.baskets_eq]

theorem Recomposed.ownInputs {s t : State} (h : Recomposed s t) (k : Nat) : t.ownInputs k = s.ownInputs k := by
  unfold State.ownInputs
  rw [(h.rows k).1, h.basketHeader, h.heldBy, h.story, h.touches.notices_eq, h.overrunMark]

theorem Recomposed.statusRow {s t : State} (h : Recomposed s t) (k : Nat) : t.statusRow k = s.statusRow k := by
  have he : t.editionField = s.editionField := by
    unfold State.editionField State.nearestEdition State.edition
    rw [h.touches.clock_eq]
  have hb : ∀ b, t.basketField b = s.basketField b := fun b => by
    unfold State.basketField
    rw [h.basketHeader]
  have hs : ∀ n, t.storyField n = s.storyField n := fun n => by
    unfold State.storyField
    rw [h.story]
  have hd : t.deadlineTerminal k = s.deadlineTerminal k := by
    unfold State.deadlineTerminal State.nearDeadline State.edition
    rw [h.heldBy, h.story, h.touches.clock_eq]
  have hf : t.flagsField k = s.flagsField k := by
    unfold State.flagsField State.faultedPages
    rw [hd, h.overrunMark, h.touches.notices_eq, h.touches.pages_eq]
  unfold State.statusRow
  rw [he, hb, hs, hf, h.heldBy, (h.rows k).1]

/-- What makes the composition in the event from `s0` to `s` mark row 23 of terminal `k` (R151). -/
def Composes (s0 : State) (all : Bool) (s : State) (k : Nat) : Prop :=
  s0.enabled k = true ∧ s.enabled k = true ∧ (all = true ∨ s0.ownInputs k ≠ s.ownInputs k)
    ∧ (s.term k).lastTaken ≠ some (s.statusRow k)

theorem Recomposed.composes {s0 s t : State} {all : Bool} {k : Nat} (h : Recomposed s t) (c : Composes s0 all t k) :
    Composes s0 all s k := by
  unfold Composes at c ⊢
  rw [h.enabled, h.ownInputs, h.statusRow, (h.rows k).2.2.1] at c
  exact c

theorem State.composeOne_newly {s0 s : State} {all : Bool} {j k : Nat} (h0 : (s.term k).dirty.at0 false 23 = false)
    (h1 : ((State.composeOne s0 all s j).term k).dirty.at0 false 23 = true) : Composes s0 all s k := by
  unfold State.composeOne at h1
  split at h1
  · next hc =>
    unfold State.markDirty at h1
    rw [State.term_setTerm] at h1
    split at h1
    · next hj =>
      obtain ⟨rfl, _⟩ := hj
      simp only [Bool.and_eq_true, Bool.or_eq_true, decide_eq_true_eq] at hc
      exact ⟨hc.1.1.1, hc.1.1.2, hc.1.2, hc.2⟩
    · rw [h0] at h1
      cases h1
  · rw [h0] at h1
    cases h1

theorem State.composeAll_newly {s0 : State} {all : Bool} {k : Nat} (l : List Nat) (s : State)
    (h0 : (s.term k).dirty.at0 false 23 = false)
    (h1 : ((l.foldl (State.composeOne s0 all) s).term k).dirty.at0 false 23 = true) : Composes s0 all s k := by
  induction l generalizing s with
  | nil => rw [List.foldl_nil, h0] at h1; cases h1
  | cons j l ih =>
    rw [List.foldl_cons] at h1
    cases hd : ((State.composeOne s0 all s j).term k).dirty.at0 false 23 with
    | true => exact State.composeOne_newly h0 hd
    | false => exact (State.composeOne_recomposed s0 all s j).composes (ih _ hd h1)

theorem State.commonInputs_differ {s t : State} (h : s.commonInputs ≠ t.commonInputs) (k : Nat) : InputsDiffer s t k := by
  unfold State.commonInputs State.faultedPages at h
  by_cases h1 : t.clock.time = s.clock.time
  · by_cases h2 : t.pages.entries.countP (fun g => g.state == .faulted) = s.pages.entries.countP (fun g => g.state == .faulted)
    · refine .inr (.inl ?_)
      refine Classical.byContradiction fun hn => ?_
      apply h
      rw [h1, h2]
      have hlen : s.clock.editions.entries.length = t.clock.editions.entries.length := by
        rw [s.clock.editions.size_eq, t.clock.editions.size_eq]
      have : s.clock.editions.entries = t.clock.editions.entries := by
        refine List.ext_getElem hlen (fun i hi hj => ?_)
        have h4 : i < 4 := by rw [s.clock.editions.size_eq] at hi; exact hi
        have := not_exists.mp hn (i + 1)
        simp only [not_and, Decidable.not_not, State.edition, Table.at1, Table.at0] at this
        have := this (by omega) (by omega)
        simpa [hi, hj] using this.symm
      rw [this]
    · exact .inr (.inr (.inl h2))
  · exact .inl h1

theorem State.ownInputs_differ {s t : State} {k : Nat} (h : s.ownInputs k ≠ t.ownInputs k) : InputsDiffer s t k := by
  refine Classical.byContradiction fun hn => ?_
  apply h
  unfold InputsDiffer at hn
  simp only [not_or, Decidable.not_not] at hn
  obtain ⟨-, -, -, h4, h5, h6, h7, h8, h9, h10, h11, h12, h13, h14, h15⟩ := hn
  unfold State.ownInputs State.basketHeader
  rw [h4, h5, h6, h7, h8, h14, h15]
  rw [h8] at h9 h10 h11 h12 h13
  rw [h9, h10, h11, h12, h13]

/-- The composition that closes a step marks row 23 as R151 says. -/
theorem State.compose_when {s t : State} (ht : t.terms = s.terms) : StatusRowsWhen s (State.compose s t false) := by
  intro k h0 h1
  have e := State.term_of_terms ht k
  have hr := State.compose_recomposed s t false
  rw [← e] at h0
  have hrun : t.part = .running := by
    refine Classical.byContradiction fun hn => ?_
    unfold State.compose at h1
    rw [if_neg hn, h0] at h1
    cases h1
  unfold State.compose at h1
  rw [if_pos hrun] at h1
  obtain ⟨c1, c2, c3, c4⟩ := State.composeAll_newly _ t h0 h1
  refine ⟨by rw [State.compose_part, hrun], c1, by rw [hr.enabled, c2], ?_, ?_⟩
  · rcases c3 with c3 | c3
    · simp only [Bool.false_or, decide_eq_true_eq] at c3
      exact State.commonInputs_differ (by rw [hr.commonInputs]; exact c3) k
    · exact State.ownInputs_differ (by rw [hr.ownInputs]; exact c3)
  · rw [hr.statusRow, (hr.rows k).2.2.1]
    exact c4

/-- A step that changes the regions `l`, terminals not among them, does nothing else but mark images and status rows. -/
theorem Only.of_touches {l : List Region} {s t : State} (h : Touches (.marks :: l) s t)
    (e : l.contains .terms = false := by decide) : Only l s (State.compose s t false) := by
  have hc := State.compose_touches s t false
  have ht : t.terms = s.terms := by
    apply h.1 .terms
    intro hm
    rcases List.mem_cons.mp hm with hm | hm
    · cases hm
    · simp_all
  refine ⟨⟨?_, (StatusRowsOnly.of_terms ht).trans (State.compose_rows s t false), h.2.trans hc.2⟩, State.compose_when ht⟩
  refine Frame.trans (t := t) (fun r hr => h.1 r ?_) (fun r hr => hc.1 r ?_)
  · intro hm
    apply hr
    rcases List.mem_cons.mp hm with hm | hm
    · exact List.mem_cons.mpr (.inl hm)
    · exact List.mem_cons_of_mem _ (List.mem_cons_of_mem _ hm)
  · intro hm
    apply hr
    rcases List.mem_cons.mp hm with hm | hm
    · exact List.mem_cons_of_mem _ (List.mem_cons.mpr (.inl hm))
    · have : r = .marks := by simpa using hm
      exact List.mem_cons.mpr (.inl this)

/-- Nothing is composed in a step that changed nothing. -/
theorem State.compose_self (s : State) : State.compose s s false = s := by
  unfold State.compose
  split
  · generalize terminalNumbers = l
    induction l with
    | nil => rfl
    | cons k l ih =>
      have : State.composeOne s (false || decide (s.commonInputs ≠ s.commonInputs)) s k = s := by
        unfold State.composeOne
        simp
      rw [List.foldl_cons, this]
      exact ih
  · rfl

/-! ## Grants (R97, R98) -/

theorem State.serve_granted {s : State} {o : MemOp} {f : State → State} (h : s.grant = some o) :
    s.serve o f = f (s.charge o) := by
  unfold State.serve
  rw [if_pos h]

theorem State.serve_waits {s : State} {o : MemOp} {f : State → State} (h : s.grant ≠ some o) : s.serve o f = s := by
  unfold State.serve
  rw [if_neg h]

/-- A waiting processor read is granted whatever else waits. -/
theorem State.grant_read {s : State} {r : ReadWait} (h : s.path.read = some r) : s.grant = some .processorRead := by
  unfold State.grant
  rw [if_pos (by rw [h]; rfl)]

/-! ## Requests (R162) -/

/-- The request record is read from memory, base and consumer index alone. -/
theorem State.request_of_eq {s t : State} (hm : t.mem = s.mem) (hb : t.base = s.base) (he : t.engine = s.engine) :
    t.request = s.request := by
  unfold State.request State.requestAddr State.readBytes
  rw [hm, hb, he]

/-- A request that passes the engine's checks goes to its owning block, with the grant charged. -/
theorem State.dispatch_asked {s : State} {k : Nat} {owner : Request → State → State} (h : Asked k s)
    (hk : knownKind k = true := by decide) :
    s.dispatch (· == k) owner = owner s.request (s.charge .requestRead) := by
  obtain ⟨hg, hp, hkind, hq⟩ := h
  have hpart : (s.charge .requestRead).part ≠ .notConfigured := by
    rw [(State.charge_touches s .requestRead).part_eq, hp]; decide
  have hreq : (s.charge .requestRead).knownRequester s.request.requester = true := by
    rw [← hq]
    unfold State.knownRequester State.enabled
    rw [State.term_of_terms (State.charge_touches s .requestRead).terms_eq]
  unfold State.dispatch
  rw [hkind, if_pos (by simp), State.serve_granted hg]
  unfold State.checkRequest
  rw [hkind, if_neg (by simp [hk]), if_neg (fun c => hpart c.1), if_neg (by rw [hreq]; decide)]

/-- What the engine and the path show once a request has been answered. -/
theorem Answered.of_answer {s t : State} {o : ReqOutcome} {note : Nat} (he : t.engine = s.engine)
    (hp : t.path = { s.path with turn := .drain, rot3 := 1 }) : Answered o note s (t.answer o note) := by
  refine ⟨?_, ?_⟩
  · show { t.engine with progress := some (.answered o note .plain) } = _
    rw [he]
  · exact hp

/-- The composition that closes a step leaves an answer as it is. -/
theorem Answered.compose {s t : State} {o : ReqOutcome} {note : Nat} (h : Answered o note s t) (s0 : State)
    (force : Bool) : Answered o note s (State.compose s0 t force) := by
  have hc := State.compose_touches s0 t force
  exact ⟨hc.engine_eq.trans h.1, hc.path_eq.trans h.2⟩

end Sys2Proof.Machine
end

