-- ==== Sys2Proof/Tests/Slice0.lean ====
section
/-! SUPPORT. Tests of the model against the manual's rules and worked values, the checks of `wellFormed` on ill-formed
commands, and a witness for the hypotheses of every statement. Each `witness_…` theorem belongs to the statement named in its
docstring; each expected value is taken from the rule named beside it. -/

namespace Sys2Proof.Tests

set_option Elab.async false

open Sys2Proof.Machine

/-! ## Helpers -/

/-- What a command does: `p` of the state it answers. -/
def run (c : Instr) (s : State) (p : State → Bool) : Bool :=
  match exec c s with
  | .next t => p t
  | _ => false

/-- The outcome code and the note of the request in progress (R174). -/
def answerOf (t : State) : Nat × Nat :=
  match t.engine.progress with
  | some (.answered o n _) => (o.code, n)
  | _ => (0, 0)

/-- The command answers its request with this outcome code and note. -/
def answers (c : Instr) (s : State) (o note : Nat) : Bool := run c s (fun t => answerOf t == (o, note))

/-- RUNNING at base 0 with a request record of kind `k` from requester `q` waiting at index 0; `args` stand from offset 8. -/
def ask (s : State) (k q : Nat) (args : List Nat) : State :=
  { s with
    part := .running
    engine := ⟨0, 1, none, false⟩
    mem := s.mem.writeBytes 0x200 (([k, q, 0, 0, 0, 0, 0, 0] ++ args).map (BitVec.ofNat 8)) }

/-- A terminal of rank `r` on drop `d` of line 0, with home basket 1, its screen at 0x300000 and its ring at 0x380000. -/
def desk (r : Rank) (d : Nat) : Terminal :=
  { Terminal.off with
    cfg := ⟨true, 0, d, r, 1, 0x300000 + 2048 * d, 0x380000 + 128 * d⟩, ring := some ⟨0, 0, false, false⟩ }

/-- RUNNING at base 0, with no terminal enabled and nothing marked. -/
def plant : State := { State.reset with part := .running, cause := .reload, marks := [] }

/-- The plant with terminal `k` alone enabled. -/
def only (k : Nat) (r : Rank) : State := { plant with terms := plant.terms.set1 k (desk r 0) }

/-- Terminals 1, 2 and 3 are REPORTER, EDITOR and SLOT on drops 0, 1 and 2 of SHARED line 0. -/
def room : State :=
  { State.reset with
    part := .running, cause := .reload, marks := []
    terms := ((State.reset.terms.set1 1 (desk .reporter 0)).set1 2 (desk .editor 1)).set1 3 (desk .slot 2)
    lines := State.reset.lines.set0 0 { Line.off with
      cfg := ⟨true, .shared, .off, false, 32⟩, pollPtr := some 3
      drops := ((Table.fill 4 none).set0 0 (some Drop.fresh)).set0 1 (some Drop.fresh) } }

/-- A FILED story of one 256-byte block in basket 1, in 20 half points with leading 22 and measure 120 (R1). -/
def filed (n : Nat) : Story :=
  { Story.freed with
    state := .filed, base := 0x100000 + 256 * n, capacity := 1, basket := 1, font := 0, size := 20, measure := 120,
    leading := 22 }

/-- The room with story `n` as `r`, in basket `r.basket`. -/
def withStory (s : State) (n : Nat) (r : Story) : State :=
  { s with
    stories := s.stories.set1 n r
    baskets := s.baskets.set1 r.basket (s.basket r.basket ++ [n]) }

/-- The room with story 7 FILED in basket 1. -/
def filed7 : State := withStory room 7 (filed 7)

/-- The room with story 7 HELD by terminal 1. -/
def held7 : State := withStory room 7 { filed 7 with state := .held, holder := 1 }

/-- The room with page 0 of edition 1 in MAKEUP, and story 7 FITS and placed on it. -/
def placed7 : State :=
  { withStory room 7 { filed 7 with placement := some (0, 0), hole := 22, d := 22, l := 1, p := 1, fit := .fits } with
    pages := room.pages.set0 0 ⟨1, 1, 0x41, .makeup, [⟨7, 22⟩], 0, 0⟩ }

/-- Story 7 with state `st`, out of baskets, on page 0 in state `g` at resume point (0, 0). -/
def paged7 (st : StoryState) (g : PageState) : State :=
  { room with
    stories := room.stories.set1 7 { filed 7 with state := st, basket := 0, placement := some (0, 0), hole := 22 }
    pages := room.pages.set0 0 ⟨1, 1, 0x41, g, [⟨7, 22⟩], 0, 0⟩ }

/-- The same with no terminal enabled. -/
def quiet (s : State) : State := { s with terms := plant.terms }

/-- The mark, data and kind of a line's frame. -/
def parts (f : Option TxFrame) : Option (Bool × Byte × TxKind) := f.map (fun x => (x.mark, x.data, x.kind))

/-! ## Placements -/

/-- A check of `PlacementsRight` that can be evaluated. -/
theorem placements_of_none {s : State} (hp : s.pages = State.reset.pages)
    (hn : ∀ n, (s.story n).placement = none) : PlacementsRight s := by
  have e : ∀ p, (s.page p).placements = [] := fun p => by
    unfold State.page
    rw [hp]
    unfold State.reset Table.at0 Table.fill
    simp only [List.getD_eq_getElem?_getD, List.getElem?_replicate]
    split <;> rfl
  refine ⟨fun p i _ q h => ?_, fun n p i h => ?_, fun n _ => hn n⟩
  · rw [e] at h
    simp at h
  · rw [hn] at h
    cases h

theorem story_set1 (t : Table 511 Story) (r : Story) (n : Nat) :
    (t.set1 7 r).at1 Story.freed n = if n = 7 then r else t.at1 Story.freed n := by
  unfold Table.at1 Table.set1 Table.at0 Table.set0
  by_cases h0 : n = 0
  · subst h0; rfl
  · by_cases h7 : n = 7
    · subst h7
      simp [List.getD_eq_getElem?_getD, t.size_eq]
    · have : 7 - 1 ≠ n - 1 := by omega
      simp [h0, h7, List.getD_eq_getElem?_getD, this]

theorem reset_story (n : Nat) : State.reset.stories.at1 Story.freed n = Story.freed := by
  unfold Table.at1 Table.at0 State.reset Table.fill
  simp only [List.getD_eq_getElem?_getD, List.getElem?_replicate]
  split
  · rfl
  · split <;> rfl

theorem filed7_placements (k q : Nat) (args : List Nat) : PlacementsRight (ask filed7 k q args) := by
  refine placements_of_none rfl (fun n => ?_)
  show ((State.reset.stories.set1 7 (filed 7)).at1 Story.freed n).placement = none
  rw [story_set1, reset_story]
  split <;> rfl

/-- Page 0 alone has a placement, of story 7, which alone is placed, and is not FREE or KILLED. -/
theorem placements_of_seven {s : State} {r : Story} {g : Page} {h : Nat}
    (hs : s.stories = State.reset.stories.set1 7 r) (hp : s.pages = State.reset.pages.set0 0 g)
    (hr : r.placement = some (0, 0)) (hg : g.placements = [⟨7, h⟩]) (hf : r.state ≠ .free) (hk : r.state ≠ .killed) :
    PlacementsRight s := by
  have est : ∀ n, s.story n = if n = 7 then r else Story.freed := fun n => by
    unfold State.story
    rw [hs, story_set1, reset_story]
  have ep : ∀ p, (s.page p).placements = if p = 0 then [⟨7, h⟩] else [] := fun p => by
    unfold State.page
    rw [hp]
    unfold Table.at0 Table.set0 State.reset Table.fill
    simp only [List.getD_eq_getElem?_getD, List.getElem?_set, List.getElem?_replicate, List.length_replicate]
    by_cases h0 : p = 0
    · subst h0
      simp [hg]
    · have : ¬ 0 = p := fun e => h0 e.symm
      simp only [this, if_false, h0]
      split <;> rfl
  refine ⟨fun p i _ q e => ?_, fun n p i e => ?_, fun n e => ?_⟩
  · rw [ep] at e
    split at e
    · next h0 =>
      subst h0
      cases i with
      | zero =>
        simp at e
        subst e
        refine ⟨rfl, ?_⟩
        rw [est]
        simpa using hr
      | succ i => simp at e
    · simp at e
  · rw [est] at e
    split at e
    · next h7 =>
      rw [hr] at e
      cases e
      rw [ep]
      exact ⟨by decide, by simp [h7]⟩
    · cases e
  · rw [est]
    split
    · next h7 =>
      rw [est, if_pos h7] at e
      rcases e with e | e
      · exact absurd e hf
      · exact absurd e hk
    · rfl

theorem placed7_placements (k q : Nat) (args : List Nat) : PlacementsRight (ask placed7 k q args) :=
  placements_of_seven (r := { filed 7 with
    placement := some (0, 0), hole := 22, d := 22, l := 1, p := 1, fit := .fits })
    (g := ⟨1, 1, 0x41, .makeup, [⟨7, 22⟩], 0, 0⟩) rfl rfl rfl rfl (by decide) (by decide)

theorem paged7_placements (st : StoryState) (g : PageState) (k q : Nat) (args : List Nat) (h1 : st ≠ .free)
    (h2 : st ≠ .killed) : PlacementsRight (ask (paged7 st g) k q args) :=
  placements_of_seven (r := { filed 7 with state := st, basket := 0, placement := some (0, 0), hole := 22 })
    (g := ⟨1, 1, 0x41, g, [⟨7, 22⟩], 0, 0⟩) rfl rfl rfl rfl h1 h2

/-! ## Well-formed commands -/

theorem test_wellFormed_processorRead : (Instr.processorRead 0x000002#24 .four).wellFormed = false := by decide

theorem test_wellFormed_writeEntry : (Instr.writeEntry 0x000001#24 (.half 5#16)).wellFormed = false := by decide

theorem test_wellFormed_misalignedRead : (Instr.misalignedRead 0x000004#24 .four).wellFormed = false := by decide

theorem test_wellFormed_misalignedWrite : (Instr.misalignedWrite 0x000003#24 (.byte 5#8)).wellFormed = false := by decide

theorem test_wellFormed_accepts :
    (Instr.processorRead 0x000004#24 .four).wellFormed = true ∧ (Instr.misalignedWrite 0x000003#24 (.half 5#16)).wellFormed = true := by
  decide

/-- No row of the table has bits, so no word spells a command. -/
theorem test_no_word_spells_a_command : decodeTableWord 8 0 = none ∧ State.reset.withFetchWord 8 0 = State.reset := by
  constructor <;> rfl

/-! ## Steps and resets -/

/-- Witness for StepRunsTheFrontCommand, with a command in the queue; `test_idle_step` has the empty queue. -/
theorem witness_front_command : (State.reset.push .advance).pending = .advance :: [] := by decide

/-- R160: the straps times 1 MiB; the highest strap value gives 15 MiB. -/
theorem test_pwrrst : run .pwrrst { State.reset with pins := ⟨15#4, true, false, true⟩ }
    (fun t => t.base == 15728640 && !t.pins.attn && t.pins.lready) = true := by decide +kernel

/-- R59, R63, R160: BUSRST keeps base, clock and G. -/
theorem test_busrst : run .busrst { room with base := 0x50000, clock := { room.clock with time := 77, grace := 25 } }
    (fun t => t.base == 0x50000 && t.clock.time == 77 && t.clock.grace == 25 && t.cause == .bus && !t.enabled 1) = true := by
  decide +kernel

/-- Log entry 3: one period of REFCLK passes on an empty queue, and the 4,915,200th completes the second (R47). -/
theorem test_idle_step : State.reset.pending = [] ∧
    (match step { State.reset with clock := { State.reset.clock with second := 4915199 } } with
      | .next t => t.clock.time == 1 && t.clock.second == 0
      | _ => false) = true
    ∧ (match step State.reset with
      | .next t => t.clock.time == 0 && t.clock.second == 1
      | _ => false) = true := by decide +kernel

/-! ## The edition clock -/

/-- R47: an advance from 86,399 is the day rollover. -/
theorem test_advance_rollover : run .advance { State.reset with clock := { State.reset.clock with time := 86399 } }
    (fun t => t.clock.time == 0) = true := by decide +kernel

/-- Edition 1 in LOCKOUT with close 20 at time 50, and story 7 FITS or UNDER on page 0, in MAKEUP. -/
def toClose (fit : Fit) : State :=
  { placed7 with
    clock := ⟨50, 0, 10, placed7.clock.editions.set1 1 ⟨true, 10, 20, .lockout, 0, 0, false, false⟩⟩
    stories := room.stories.set1 7 { filed 7 with
      placement := some (0, 0), hole := 22, d := 22, l := 1, p := 1, fit := fit } }

theorem toClose_placements {s : State} (hs : s.stories = (toClose .fits).stories) (hp : s.pages = (toClose .fits).pages) :
    PlacementsRight s :=
  placements_of_seven (r := { filed 7 with placement := some (0, 0), hole := 22, d := 22, l := 1, p := 1, fit := .fits })
    (g := ⟨1, 1, 0x41, .makeup, [⟨7, 22⟩], 0, 0⟩) hs hp rfl rfl (by decide) (by decide)

/-- Witness for AdvanceEvaluatesEveryEdition, with edition 1 due to close and page 0 to take. -/
theorem witness_advance : (toClose .fits).part ≠ .passThrough ∧ PlacementsRight (toClose .fits) :=
  ⟨by decide, toClose_placements rfl rfl⟩

/-- R54, R55: at lockout and close 100 an edition with a hold armed enters GRACE in
one evaluation, with grace end 100 + 10 × 60; R47: the evaluation is made before the time word is marked. R60: the close takes a
page whose story FITS. -/
theorem test_advance_grace :
    run .advance { plant with clock := { plant.clock with
        time := 99, editions := plant.clock.editions.set1 4 ⟨true, 100, 100, .opened, 0, 0, true, false⟩ } }
      (fun t => t.edition 4 == ⟨true, 100, 100, .grace, 700, 1, false, false⟩ && t.marks == [.edition 4, .time]
        && t.notices.unwritten.map (fun q => (q.kind, q.unit, q.graceCount, q.graceEnd)) == [(.grace, some 4, 1, 700)])
      = true
    ∧ run .advance (quiet (toClose .fits)) (fun t => (t.edition 1).state == .closed && (t.page 0).state == .queued
        && t.sendQueue == [0] && t.basket 1 == [] && t.notices.unwritten.map (fun q => (q.kind, q.unit)) == [(.closed, some 1)])
      = true := by decide +kernel

/-- Witness for SettimeSetsTheTime, from the system, from a terminal, and with edition 1 due to close. -/
theorem witness_settime : Asked 10 (ask plant 10 0 [0x00, 0x60, 0x01, 0]) ∧ Asked 10 (ask room 10 3 [])
    ∧ Asked 10 (ask (toClose .fits) 10 0 [60, 0, 0, 0]) ∧ PlacementsRight (ask (toClose .fits) 10 0 [60, 0, 0, 0]) := by
  refine ⟨?_, ?_, ?_, toClose_placements rfl rfl⟩
  all_goals (unfold Asked; decide +kernel)

/-- R49: 90,112 is clamped to 86,399; 86,399 is taken as it is, and the editions are evaluated before the time word is marked;
the close of edition 1 takes its page; a terminal is answered RANK. -/
theorem test_settime : answers .settime (ask plant 10 0 [0x00, 0x60, 0x01, 0]) 2 0 = true
    ∧ run .settime { ask plant 10 0 [0x7F, 0x51, 0x01, 0] with
        clock := { plant.clock with editions := plant.clock.editions.set1 2 ⟨true, 100, 200, .opened, 0, 0, false, false⟩ } }
      (fun t => answerOf t == (1, 0) && t.clock.time == 86399 && (t.edition 2).state == .closed
        && t.marks == [.edition 2, .time]) = true
    ∧ run .settime (ask (quiet (toClose .fits)) 10 0 [60, 0, 0, 0]) (fun t => (t.page 0).state == .queued && t.sendQueue == [0])
      = true
    ∧ answers .settime (ask (only 3 .slot) 10 3 []) 5 0 = true := by decide +kernel

/-- SCHEDULE edition 1 with lockout 10 and close 20. -/
def schedule1 : List Nat := [1, 0, 0, 0, 10, 0, 0, 0, 20, 0, 0, 0]

/-- Witness for ScheduleSetsAnEdition: SLOT, edition 4, reopening; an EDITOR; and a close that takes a page. -/
theorem witness_schedule : PlacementsRight (ask room 11 3 [4, 1]) ∧ Asked 11 (ask room 11 3 [4, 1])
    ∧ Asked 11 (ask room 11 2 [5, 0]) ∧ PlacementsRight (ask (toClose .fits) 11 0 schedule1)
    ∧ Asked 11 (ask (toClose .fits) 11 0 schedule1) := by
  refine ⟨placements_of_none rfl (fun n => ?_), ?_, ?_, toClose_placements rfl rfl, ?_⟩
  · show (State.reset.stories.at1 Story.freed n).placement = none
    rw [reset_story]
    rfl
  all_goals (unfold Asked; decide +kernel)

/-- R60, R61: at the close a page whose story FITS is QUEUED and sent for, its story out of its basket; one whose story is UNDER
is LATE, with a notice that names page, story and edition, and the CLOSED notice follows. -/
theorem test_close :
    run .schedule (ask (quiet (toClose .fits)) 11 0 schedule1)
      (fun t => answerOf t == (1, 3) && (t.page 0).state == .queued && t.sendQueue == [0] && (t.story 7).state == .queued
        && t.basket 1 == [] && t.notices.unwritten.map (fun q => (q.kind, q.unit)) == [(.closed, some 1)]) = true
    ∧ run .schedule (ask (quiet (toClose .under)) 11 0 schedule1)
      (fun t => (t.page 0).state == .late && (t.story 7).state == .filed && t.basket 1 == [7]
        && t.notices.unwritten.map (fun q => (q.kind, q.page, q.story, q.unit))
          == [(.late, some 0, 7, some 1), (.closed, none, 0, some 1)]) = true := by decide +kernel

/-- R51: a lockout of 84,600 with a close of 1,800 becomes a lockout and close both of 1,800; edition 5 is BAD_ARG. -/
theorem test_schedule :
    run .schedule (ask plant 11 0 [1, 0, 0, 0, 0x78, 0x4A, 0x01, 0, 0x08, 0x07, 0, 0])
      (fun t => answerOf t == (2, 0) && t.edition 1 == ⟨true, 1800, 1800, .opened, 0, 0, false, false⟩) = true
    ∧ answers .schedule (ask plant 11 0 [5, 0]) 17 0 = true ∧ answers .schedule (ask (only 2 .editor) 11 2 [5, 0]) 5 0 = true := by
  decide +kernel

/-- The room with every edition scheduled and in state `st` with grace count `k`. -/
def editions (st : EditionState) (k : Nat) (latched : Bool) : State :=
  { plant with clock := ⟨50, 0, 10, Table.fill 4 ⟨true, 10, 20, st, 900, k, false, latched⟩⟩ }

/-- Witness for HoldArmsOrLatches, in OPEN and in GRACE with count 3. -/
theorem witness_hold : Asked 12 (ask (editions .opened 0 false) 12 0 [1])
    ∧ Asked 12 (ask (editions .grace 3 false) 12 0 [4]) := by
  unfold Asked
  decide +kernel

/-- R58: armed in OPEN, latched in GRACE with count 2, LIMIT with count 3, BUSY before LIMIT, CLOSED. -/
theorem test_hold :
    run .hold (ask (editions .opened 0 false) 12 0 [1]) (fun t => answerOf t == (1, 0) && (t.edition 1).armed) = true
    ∧ run .hold (ask (editions .grace 2 false) 12 0 [1]) (fun t => answerOf t == (1, 2) && (t.edition 1).latched) = true
    ∧ answers .hold (ask (editions .grace 3 false) 12 0 [4]) 14 0 = true
    ∧ answers .hold (ask (editions .grace 3 true) 12 0 [4]) 13 0 = true
    ∧ answers .hold (ask (editions .closed 1 false) 12 0 [4]) 15 0 = true := by decide +kernel

/-! ## The memory path -/

/-- The plant with `q` in the write queue. -/
def queued (q : List Entry) : State := { plant with path := { plant.path with queue := q, counter := 9, turn := .drain } }

/-- A plain write of `bs` at `a` with sequence number 8. -/
def entry (a : Nat) (bs : List Byte) (m : Membership) : Entry := ⟨a, bs, List.replicate bs.length [m], 8⟩

/-- Witness for ReadsReturnTheYoungestBytes, a read presented: a byte at the last address, held in the queue, a misaligned half
word before it, which is not, and one that passes the last address. `test_processorReadData` has the memory read. -/
theorem witness_reads : (queued [entry 16777215 [5#8] .plain]).path.held = none
    ∧ (queued [entry 16777215 [5#8] .plain]).path.read = none
    ∧ queuedByte (queued [entry 16777215 [5#8] .plain]).path.queue 16777215 = some 5#8
    ∧ queuedByte (queued [entry 16777215 [5#8] .plain]).path.queue 16777213 = none
    ∧ (0xFFFFFD#24).toNat % XferSize.two.bytes ≠ 0 ∧ addressSpace < (0xFFFFFF#24).toNat + XferSize.two.bytes := by
  decide +kernel

/-- R86: a read whose bytes are all queued returns the youngest of them, least significant byte first. -/
theorem test_processorRead :
    run (.processorRead 0x000104#24 .two) (queued [entry 0x104 [1#8, 2#8, 3#8, 4#8] .plain, entry 0x105 [9#8] .plain])
      (fun t => t.path.readData == some [1#8, 9#8] && t.path.read == none) = true := by decide +kernel

/-- R95: a misaligned read is made, with one BUSFORM notice of cause READ, past the last address too. -/
theorem test_misalignedRead :
    run (.misalignedRead 0x400001#24 .two) plant
      (fun t => t.path.read == some ⟨0x400001, 2⟩ && t.notices.unwritten.map (fun q => (q.kind, q.cause)) == [(.busform, .read)])
      = true
    ∧ run (.misalignedRead 0xFFFFFF#24 .two) plant
      (fun t => t.path.read == some ⟨0xFFFFFF, 2⟩ && t.notices.unwritten.map (fun q => (q.kind, q.cause)) == [(.busform, .read)])
      = true := by decide +kernel

/-- A read of four bytes at 0x600 that waits, with one of its bytes queued. -/
def waitingRead : State :=
  { queued [entry 0x601 [7#8] .plain] with
    path := { (queued [entry 0x601 [7#8] .plain]).path with read := some ⟨0x600, 4⟩ }
    mem := [(0x600, 3#8), (0x601, 4#8)] }

/-- R86: the queue's bytes over memory's; of a read past the last address the byte in memory is returned and the bus is free. -/
theorem test_processorReadData : waitingRead.path.read = some ⟨0x600, 4⟩
    ∧ run .processorReadData waitingRead (fun t => t.path.readData == some [3#8, 7#8, 0#8, 0#8]) = true
    ∧ run .processorReadData { waitingRead with
        path := { waitingRead.path with read := some ⟨0xFFFFFF, 2⟩ }, mem := [(0xFFFFFF, 5#8)] }
      (fun t => t.path.readData.map (fun bs => (bs.length, bs.take 1)) == some (2, [5#8]) && t.path.read == none) = true := by
  decide +kernel

/-- Only story 7 is registered, so a text byte is one of its. -/
theorem inText_seven {s : State} {r : Story} (hs : s.stories = State.reset.stories.set1 7 r) {n x : Nat}
    (h : InText s n x) : n = 7 := by
  obtain ⟨_, _, h, _⟩ := h
  unfold State.story at h
  rw [hs, story_set1, reset_story] at h
  by_cases e : n = 7
  · exact e
  · rw [if_neg e] at h
    exact absurd rfl h

/-- No story is registered, so no byte is a text byte. -/
theorem inText_reset {s : State} (hs : s.stories = State.reset.stories) {n x : Nat} (h : InText s n x) : False := by
  obtain ⟨_, _, h, _⟩ := h
  unfold State.story at h
  rw [hs, reset_story] at h
  exact absurd rfl h

/-- No terminal is enabled, so no byte is of a key ring. -/
theorem no_ring {s : State} (h : s.terms = plant.terms) (x : Nat) : ¬InRingPart s x := by
  rintro ⟨_, k, _, _, h3, _⟩
  have off : ∀ k, k < 65 → (plant.term k).cfg.enabled = false := by decide +kernel
  unfold State.term at h3 off
  rw [h, off k (by omega)] at h3
  cases h3

/-- A write that touches no part-written byte is not refused where no story is registered. -/
theorem not_refused {s : State} {a n : Nat} (hs : s.stories = State.reset.stories) (ht : s.terms = plant.terms)
    (h : ∀ i, i < n → ¬InControlPart s (a + i)) (q : Notice) : ¬IsRefused s a n q := by
  rintro (⟨i, hi, _, e | e⟩ | ⟨_, _, i, m, c, _, e, _⟩)
  · exact h i hi e.1
  · exact no_ring ht _ e.2.1
  · exact inText_reset hs e

/-- The plant with a write of one byte at 0x700000 held on the bus. -/
def holding : State := { plant with path := { plant.path with held := some ⟨0x700000, [1#8]⟩ } }

/-- Witness for WritesEnterTheQueue: a whole write of the request producer index, a half word of it, the context word, a held
write, a write in PASS-THROUGH, and a full queue. -/
theorem witness_writes :
    (Presents (.writeEntry 0x000104#24 (.word 0x1F#32)) 0x104 [0x1F#8, 0#8, 0#8, 0#8] plant
      ∧ (∀ q, ¬IsRefused plant 0x104 4 q) ∧ (∀ q, ¬IsRefused plant 0x106 2 q) ∧ PartWord plant 0x106 2)
    ∧ (Presents (.contextWordWrite 64#32) 0x100 [64#8, 0#8, 0#8, 0#8] plant ∧ ∀ q, ¬IsRefused plant 0x100 4 q)
    ∧ (Presents .heldWriteEntry 0x700000 [1#8] holding ∧ ∀ q, ¬IsRefused holding 0x700000 1 q)
    ∧ Presents .heldWriteEntry 0x700000 [1#8] { holding with part := .passThrough }
    ∧ 8 ≤ (queued (List.replicate 8 (entry 0x104 [1#8] .plain))).path.queue.length := by
  refine ⟨⟨⟨rfl, by decide, .inl ⟨rfl, _, _, .inl rfl, rfl, by decide⟩⟩, not_refused rfl rfl ?_, not_refused rfl rfl ?_,
    0x104, 4, 0, by decide, by decide, by decide, by decide, .inl ⟨rfl, by decide⟩⟩,
    ⟨⟨rfl, by decide, .inr (.inl ⟨rfl, _, rfl, rfl, by decide⟩)⟩, not_refused rfl rfl ?_⟩,
    ⟨⟨rfl, by decide, .inr (.inr ⟨rfl, rfl⟩)⟩, not_refused rfl rfl ?_⟩, ⟨rfl, by decide, .inr (.inr ⟨rfl, rfl⟩)⟩, by decide⟩
  all_goals (unfold InControlPart; decide +kernel)

/-- R94: a half of a live word enters as plain, with a BUSFORM notice of cause PART_WORD. -/
theorem test_partWord : run (.writeEntry 0x000106#24 (.half 1#16)) (queued [])
    (fun t => t.path.queue == [⟨0x106, [1#8, 0#8], [[.plain], [.plain]], 9⟩]
      && t.notices.unwritten.map (fun q => (q.kind, q.cause)) == [(.busform, .partWord)]) = true := by decide +kernel

/-- R90, R94: a whole write of the request producer index keeps its membership and takes the counter's value. -/
theorem test_writeEntry : run (.writeEntry 0x000104#24 (.word 0x0000001F#32)) (queued [])
    (fun t => t.path.queue == [⟨0x104, [0x1F#8, 0#8, 0#8, 0#8], List.replicate 4 [.requestProducer], 9⟩]
      && t.path.counter == 10) = true := by decide +kernel

/-- R105, R106: a write of the part state word is refused with an IMAGE notice, once. -/
theorem test_writeEntry_refused : run (.writeEntry 0x000110#24 (.byte 1#8)) plant
    (fun t => t.path.queue == [] && t.notices.refusedSystem
      && t.notices.unwritten.map (fun q => (q.kind, q.cause)) == [(.image, .control)]) = true := by decide +kernel

/-- R89: a write that finds 8 entries is held, and enters when there is room; the queue is then full again. -/
theorem test_heldWriteEntry :
    run (.writeEntry 0x000104#24 (.byte 1#8)) (queued (List.replicate 8 (entry 0x104 [1#8] .plain)))
      (fun t => t.path.held == some ⟨0x104, [1#8]⟩ && t.path.queue.length == 8) = true
    ∧ run .heldWriteEntry { plant with path := { plant.path with
        held := some ⟨0x700000, [1#8]⟩, queue := List.replicate 7 (entry 0x104 [1#8] .plain) } }
      (fun t => t.path.held == none && t.path.queue.length == 8) = true := by decide +kernel

/-- R94: the context word is latched at its acceptance. -/
theorem test_contextWordWrite : run (.contextWordWrite 64#32) plant
    (fun t => t.path.context == 64 && t.path.queue.map (fun e => e.addr) == [0x100]) = true := by decide +kernel

/-- The plant with story 7 SENDING on page 0. -/
def sending7 : State := paged7 .sending .sending

/-- Story 7 FILED, with terminal 1 in the context word. -/
def filed7By1 : State := { filed7 with path := { filed7.path with context := 1 } }

/-- The last byte of a SENDING story's block, and a half word across its end, held on the bus. -/
def sending7Holds (bs : List Byte) : State :=
  { sending7 with path := { sending7.path with held := some ⟨0x1007FF, bs⟩ } }

/-- Witness for RefusedWritesAreDiscarded: a part-written byte of the control area, one of a key ring, and a text byte. -/
theorem witness_refused : IsRefused plant 0x110 1 (imageNotice plant .control)
    ∧ IsRefused room 0x380000 1 (imageNotice room .keyRing)
    ∧ IsRefused filed7By1 0x100700 1 (guardNotice filed7By1 7 .notHolder)
    ∧ Presents (.writeEntry 0x100700#24 (.byte 1#8)) 0x100700 [1#8] filed7By1 := by
  have zero : ∀ i, i < 1 → i = 0 := fun i h => by omega
  refine ⟨.inl ⟨0, by decide, fun j hj => absurd hj (Nat.not_lt_zero j), .inl ⟨?_, rfl⟩⟩,
    .inl ⟨0, by decide, fun j hj => absurd hj (Nat.not_lt_zero j), .inr ⟨?_, ⟨rfl, 1, ?_⟩, rfl⟩⟩,
    .inr ⟨fun i hi => ?_, rfl, 0, 7, .notHolder, by decide, ?_, rfl, rfl, fun k hk h => ?_,
      fun j _ hj => absurd hj (Nat.not_lt_zero j)⟩, rfl, by decide, .inl ⟨rfl, _, _, .inl rfl, rfl, by decide⟩⟩
  · unfold InControlPart; decide +kernel
  · unfold InControlPart; decide +kernel
  · decide +kernel
  · cases zero i hi
    refine ⟨by unfold InControlPart; decide +kernel, ?_⟩
    rintro ⟨_, k, _, h2, _, h4, h5⟩
    have rings : ∀ k, k < 65 → 0x380000 ≤ (room.term k).cfg.ring ∨ (room.term k).cfg.ring = 0 := by decide +kernel
    have := rings k (by omega)
    have e : filed7By1.term k = room.term k := rfl
    rw [e] at h4 h5
    omega
  · unfold InText; decide +kernel
  · exact absurd (inText_seven (r := filed 7) rfl h) (by omega)

/-- Witness for RefusedWritesAreDiscarded, a SENDING story: the last byte of the block, and a half word across its end, presented
and held. -/
theorem witness_closed_text : Presents .heldWriteEntry 0x1007FF [1#8] (sending7Holds [1#8])
    ∧ Presents .heldWriteEntry 0x1007FF [1#8, 0#8] (sending7Holds [1#8, 0#8])
    ∧ Presents (.misalignedWrite 0x1007FF#24 (.half 1#16)) 0x1007FF [1#8, 0#8] sending7
    ∧ (sending7.story 7).state = .sending ∧ (sending7.story 7).base < 0x1007FF + 1
    ∧ 0x1007FF < (sending7.story 7).base + 256 * (sending7.story 7).capacity ∧ sending7.part = .running := by
  refine ⟨⟨rfl, by decide, .inr (.inr ⟨rfl, rfl⟩)⟩, ⟨rfl, by decide, .inr (.inr ⟨rfl, rfl⟩)⟩,
    ⟨rfl, by decide, .inl ⟨rfl, _, _, .inr rfl, rfl, by decide⟩⟩, ?_⟩
  decide +kernel

/-- R95: a misaligned write across the end of a SENDING story's text is dropped; R103, R107: an aligned one of a FILED story by a
terminal is refused, with a GUARD notice; both from the bus too. -/
theorem test_misalignedWrite_dropped :
    ([(Instr.misalignedWrite 0x1007FF#24 (.half 1#16), sending7, Cause.dropped),
        (.heldWriteEntry, sending7Holds [1#8, 0#8], .dropped), (.heldWriteEntry, sending7Holds [1#8], .inSend),
        (.writeEntry 0x100700#24 (.byte 1#8), filed7By1, .notHolder)].all
      (fun x => run x.1 x.2.1 (fun t => t.path.queue == [] && t.path.held == none
        && t.notices.unwritten.map (fun q => (q.cause, q.story)) == [(x.2.2, 7)]))) = true := by decide +kernel

/-- Witness for MisalignedWrites, outside and inside the control area and in PASS-THROUGH; R95: one that touches neither
joins the queue as plain. -/
theorem test_misalignedWrite :
    Presents (.misalignedWrite 0x400003#24 (.half 0x0201#16)) 0x400003 [1#8, 2#8] plant
    ∧ Presents (.misalignedWrite 0x000003#24 (.half 0x0201#16)) 0x000003 [1#8, 2#8] plant
    ∧ Presents (.misalignedWrite 0xFFFFFF#24 (.half 0x0201#16)) 0xFFFFFF [1#8, 2#8] { plant with part := .passThrough }
    ∧ run (.misalignedWrite 0x400003#24 (.half 0x0201#16)) plant
      (fun t => t.path.queue == [⟨0x400003, [1#8, 2#8], [[.plain], [.plain]], 0⟩]
        && t.notices.unwritten.map (fun q => q.cause) == [.write]) = true := by
  refine ⟨⟨rfl, by decide, .inl ⟨rfl, _, _, .inr rfl, rfl, by decide⟩⟩,
    ⟨rfl, by decide, .inl ⟨rfl, _, _, .inr rfl, rfl, by decide⟩⟩,
    ⟨rfl, by decide, .inl ⟨rfl, _, _, .inr rfl, rfl, by decide⟩⟩, ?_⟩
  decide +kernel

/-- A byte of row 1 of terminal 2's screen waits to drain, which is in row 11 of terminal 3's. -/
def screenWrite : State :=
  { room with
    path := { room.path with queue := [entry (0x300800 + 80) [0x41#8] (.screen 2)], turn := .drain }
    terms := room.terms.set1 3 { desk .slot 2 with cfg := { (desk .slot 2).cfg with screen := 0x300800 - 800 } } }

/-- A misaligned half word over the last byte of story 7's block waits to drain. -/
def misalignedText : State :=
  { withStory plant 7 (filed 7) with
    path := { plant.path with queue := [entry 0x1007FF [1#8, 2#8] .plain], turn := .drain } }

/-- Witness for DrainWritesTheOldestEntry, a screen byte and a misaligned write, also in PASS-THROUGH; R31, R95, R100, R150. -/
theorem test_drain_effects : screenWrite.grant = some .drain ∧ misalignedText.grant = some .drain
    ∧ { misalignedText with part := .passThrough }.grant = some .drain
    ∧ run .drain screenWrite (fun t => (t.term 2).dirty.at0 false 1 && (t.term 3).dirty.at0 false 11
      && (t.term 1).dirtyCount == 0 && (t.term 2).dirtyCount == 1) = true
    ∧ run .drain misalignedText (fun t => (t.story 7).recount == .waiting && t.copyfit.list == [⟨7, none⟩]
      && t.mem == [(0x1007FF, 1#8), (0x100800, 2#8)]) = true
    ∧ run .drain { misalignedText with part := .passThrough }
      (fun t => (t.story 7).recount == .idle && t.copyfit.list == []) = true := by decide +kernel

/-- Witness for DrainWritesTheOldestEntry, a plain write; R91. -/
theorem test_drain : (queued [entry 0x500000 [1#8, 2#8] .plain]).grant = some .drain
    ∧ run .drain (queued [entry 0x500000 [1#8, 2#8] .plain]) (fun t => t.mem == [(0x500000, 1#8), (0x500001, 2#8)]
      && t.path.queue == []) = true := by decide +kernel

/-- A producer index write of 33, a notice consumer write of 70 and a key ring consumer write of 32 wait to drain. -/
def producerWrite : State := queued [entry 0x104 [33#8, 0#8, 0#8, 0#8] .requestProducer]

def consumerWrite : State :=
  { queued [entry 0x108 [70#8, 0#8, 0#8, 0#8] .noticeConsumer] with
    notices := { plant.notices with published := 6, reserved := 6, overflow := true } }

def ringWrite : State :=
  { room with
    path := { room.path with queue := [entry 0x380002 [32#8, 0#8] (.keyConsumer 1)], turn := .drain }
    terms := room.terms.set1 1 { desk .reporter 0 with ring := some ⟨31, 0, true, false⟩ } }

/-- Witness for LiveWordsActAtTheirDrain, one for each live word. -/
theorem witness_live_words : producerWrite.grant = some .drain ∧ consumerWrite.grant = some .drain
    ∧ ringWrite.grant = some .drain ∧ ringWrite.enabled 1 = true ∧ (ringWrite.term 1).ring = some ⟨31, 0, true, false⟩ := by
  decide +kernel

/-- R161: the value is taken modulo 32. -/
theorem test_requestProducerIndexWrite :
    run .requestProducerIndexWrite producerWrite (fun t => t.engine.latest == 1) = true := by decide +kernel

/-- R163, R164: modulo 64; the overflow mark is cleared, the word asked for, and ATTN deasserted. -/
theorem test_noticeConsumerIndexWrite : run .noticeConsumerIndexWrite consumerWrite
    (fun t => t.notices.consumer == 6 && !t.notices.overflow && t.notices.wordFlag && !t.pins.attn) = true := by decide +kernel

/-- R146: modulo 32; the overrun mark is cleared and a header write asked for. -/
theorem test_keyRingConsumerWrite : run .keyRingConsumerWrite ringWrite
    (fun t => (t.term 1).ring == some ⟨31, 0, false, true⟩) = true := by decide +kernel

/-- Story 7 with recount state `k`, and a write of 0x4D over 0 at its offset 15 waiting to drain. -/
def textWrite (k : Recount) : State :=
  { withStory plant 7 { filed 7 with recount := k, measure := 36, u := 100 } with
    path := { plant.path with queue := [entry 0x10070F [0x4D#8] (.text 7 15)], turn := .drain }
    copyfit := { plant.copyfit with cursor := 16 } }

/-- The same with a write of PARA, 0x4D, PARA, 0x4D at offset 12, in terminal 1's screen buffer too, and the cursor at 14. -/
def wideWrite (k : Recount) : State :=
  { textWrite k with
    path := { plant.path with
      queue := [⟨0x10070C, [0x1E#8, 0x4D#8, 0x1E#8, 0x4D#8],
        (List.range 4).map (fun i => [.text 7 (12 + i), .screen 1]), 8⟩], turn := .drain }
    copyfit := { plant.copyfit with cursor := 14 } }

/-- Witness for TextDrainsKeepTheCounts, in each recount state, for one byte and for four with a further membership. -/
theorem witness_text_drain : (textWrite .idle).grant = some .drain ∧ (textWrite .counting).grant = some .drain
    ∧ (textWrite .waiting).grant = some .drain ∧ validStory 7 = true
    ∧ ((textWrite .counting).story 7).state ≠ .free ∧ 15 < (textWrite .counting).copyfit.cursor
    ∧ (wideWrite .idle).grant = some .drain ∧ (wideWrite .counting).grant = some .drain
    ∧ (∀ e, (wideWrite .idle).path.queue.head? = some e → ∀ i, i < 4 →
        (e.members.getD i []).filter (fun m => m.isText) = [Membership.text 7 (12 + i)]) := by decide +kernel

/-- R24, R29, R38, R39: M is 15 units wide: U is 115, L is 115 × 20 / (36 × 36) = 1 and D is 22. Four bytes count as each by
itself: U is 130 and L is 2 + 2; of a COUNTING story only the two bytes below the cursor count. -/
theorem test_drain_text : run .drain (textWrite .idle)
      (fun t => (t.story 7).u == 115 && (t.story 7).l == 1 && (t.story 7).d == 22) = true
    ∧ run .drain (wideWrite .idle) (fun t => (t.story 7).u == 130 && (t.story 7).p == 2 && (t.story 7).l == 4) = true
    ∧ run .drain (wideWrite .counting) (fun t => (t.story 7).u == 115 && (t.story 7).p == 1 && (t.story 7).l == 0) = true := by
  decide +kernel

/-- A store is named by `storesToMemory`, and the commands that are not keep memory (NoOtherCommandWritesMemory). -/
theorem witness_no_store : storesToMemory .take = false ∧ run .take (ask room 2 1 [7, 0]) (fun _ => true) = true := by
  decide +kernel

/-! ## Requests -/

/-- Witness for TheEngineChecksEveryRequest: NOT CONFIGURED, a terminal above 64, a terminal not enabled, and kinds 0, 22. -/
theorem witness_engine_checks :
    ({ ask plant 2 0 [] with part := .notConfigured } : State).grant = some .requestRead
    ∧ (ask plant 2 0 []).request.kind = 2 ∧ 64 < (ask plant 2 65 []).request.requester
    ∧ (ask plant 2 64 []).enabled (ask plant 2 64 []).request.requester = false ∧ (ask plant 0 0 []).request.kind = 0
    ∧ 21 < (ask plant 22 0 []).request.kind ∧ (ask plant 22 0 []).grant = some .requestRead := by decide +kernel

/-- R162: NOT_READY and NO_TERMINAL, in that order; a kind without a request is BAD_ARG whoever asks. -/
theorem test_unknownRequest : answers .unknownRequest (ask plant 22 65 []) 17 0 = true
    ∧ answers .take { ask plant 2 65 [] with part := .notConfigured } 3 0 = true
    ∧ answers .take (ask plant 2 65 []) 4 0 = true := by decide +kernel

/-- Witness for RegisterFilesAStory: the highest story and a block that ends at the end of memory; base 0 overlaps the control
area; and story 0. -/
theorem witness_register : Asked 1 (ask plant 1 0 [0xFF, 1, 0, 0, 0, 0xC0, 0xFF, 0, 64, 4, 23, 1])
    ∧ ((ask plant 1 0 []).story 511).state = .free ∧ Asked 1 (ask plant 1 0 [0, 0]) := by
  unfold Asked
  decide +kernel

/-- R9, R10: story 511 with 64 blocks at 0xFFC000, style all below range, joins basket 23; base 0 is OVERLAP. -/
theorem test_register : run .register (ask plant 1 0 [0xFF, 1, 0, 0, 0, 0xC0, 0xFF, 0, 64, 4, 23, 1])
      (fun t => answerOf t == (2, 0) && (t.story 511).size == 8 && (t.story 511).measure == 36
        && (t.story 511).recount == .waiting && t.basket 23 == [511] && t.copyfit.list == [⟨511, none⟩]) = true
    ∧ answers .register (ask plant 1 0 [7, 0, 0, 0, 0, 0, 0, 0, 1, 0, 1, 0]) 12 0 = true := by decide +kernel

/-- R9: capacity 65, edition 5, basket 24 and base 1 are BAD_ARG; 512 is NO_STORY; a registered number is BAD_STATE. -/
theorem test_register_checks :
    ([[7, 0, 0, 0, 0, 0, 16, 0, 65, 0, 1], [7, 0, 0, 0, 0, 0, 16, 0, 1, 5, 1], [7, 0, 0, 0, 0, 0, 16, 0, 1, 0, 24],
      [7, 0, 0, 0, 1, 0, 16, 0, 1, 0, 1]].all (fun a => answers .register (ask plant 1 0 a) 17 0)) = true
    ∧ answers .register (ask plant 1 0 [0, 2]) 6 0 = true
    ∧ answers .register (ask filed7 1 0 [7, 0, 0, 0, 0, 0, 16, 0, 1, 0, 1, 0]) 8 0 = true := by decide +kernel

/-- Witness for TakeMakesTheRequesterTheHolder, from a terminal and from the system. -/
theorem witness_take : Asked 2 (ask filed7 2 1 [7, 0]) ∧ Asked 2 (ask filed7 2 0 [7, 0]) := by
  unfold Asked
  decide +kernel

/-- R11: taken by terminal 1; again by it HOLDING; by terminal 3 HELD; by the system BAD_ARG. -/
theorem test_take : run .take (ask { filed7 with terms := (only 1 .reporter).terms } 2 1 [7, 0])
      (fun t => answerOf t == (1, 0) && (t.story 7).state == .held && (t.story 7).holder == 1) = true
    ∧ answers .take (ask held7 2 1 [7, 0]) 10 0 = true ∧ answers .take (ask held7 2 3 [7, 0]) 9 0 = true
    ∧ answers .take (ask filed7 2 0 [7, 0]) 17 0 = true := by decide +kernel

/-- R11, check 7: a REPORTER and a story of a CLOSED edition: RANK; an EDITOR takes it. -/
theorem test_take_restricted :
    answers .take (ask { withStory room 7 { filed 7 with edition := 1 } with
      clock := ⟨50, 0, 10, Table.fill 4 ⟨true, 10, 20, .closed, 0, 0, false, false⟩⟩ } 2 1 [7, 0]) 5 0 = true
    ∧ answers .take (ask { withStory room 7 { filed 7 with edition := 1 } with
      clock := ⟨50, 0, 10, Table.fill 4 ⟨true, 10, 20, .closed, 0, 0, false, false⟩⟩ } 2 2 [7, 0]) 1 0 = true := by
  decide +kernel

/-- Witness for ReturnGivesTheStoryBack. -/
theorem witness_return : Asked 3 (ask held7 3 1 [7, 0]) ∧ Asked 3 (ask held7 3 3 [0, 2]) := by
  unfold Asked
  decide +kernel

/-- R12: given back by the system; 512 is NO_STORY; another terminal is RANK; a FILED story BAD_STATE. -/
theorem test_returnStory : run .returnStory (ask (quiet held7) 3 0 [7, 0])
      (fun t => answerOf t == (1, 0) && (t.story 7).state == .filed && (t.story 7).holder == 0) = true
    ∧ answers .returnStory (ask held7 3 1 [0, 2]) 6 0 = true ∧ answers .returnStory (ask held7 3 3 [7, 0]) 5 0 = true
    ∧ answers .returnStory (ask filed7 3 0 [7, 0]) 8 0 = true := by decide +kernel

/-- Witness for FileMovesTheStory. -/
theorem witness_file : Asked 4 (ask filed7 4 0 [7, 0, 23, 1]) ∧ Asked 4 (ask filed7 4 0 [7, 0, 24, 1]) := by
  unfold Asked
  decide +kernel

/-- R4, R14: an urgent story joins ahead of the ordinary ones; basket 24 is BAD_ARG; a SLOT may not file a held story. -/
theorem test_file : run .file (ask (quiet (withStory filed7 9 { filed 9 with basket := 2 })) 4 0 [7, 0, 2, 1])
      (fun t => answerOf t == (1, 0) && t.basket 2 == [7, 9] && t.basket 1 == [] && (t.story 7).urgent) = true
    ∧ answers .file (ask filed7 4 0 [7, 0, 24, 1]) 17 0 = true ∧ answers .file (ask held7 4 3 [7, 0, 2, 0]) 9 0 = true := by
  decide +kernel

/-- Witness for KillWithdrawsTheStory, for a story on no page and for one on page 0. -/
theorem witness_kill : PlacementsRight (ask filed7 5 0 [7, 0]) ∧ Asked 5 (ask filed7 5 0 [7, 0])
    ∧ PlacementsRight (ask placed7 5 3 [7, 0]) ∧ Asked 5 (ask placed7 5 3 [7, 0]) := by
  refine ⟨filed7_placements .., ?_, placed7_placements .., ?_⟩ <;> (unfold Asked; decide +kernel)

/-- R16: KILLED, out of its basket and off its page; a REPORTER is RANK; a QUEUED story BAD_STATE. -/
theorem test_kill : run .kill (ask (quiet placed7) 5 0 [7, 0])
      (fun t => answerOf t == (1, 0) && (t.story 7).state == .killed && (t.story 7).placement == none
        && t.basket 1 == [] && (t.page 0).placements == []) = true
    ∧ answers .kill (ask placed7 5 1 [7, 0]) 5 0 = true ∧ answers .kill (ask (paged7 .queued .queued) 5 0 [7, 0]) 8 0 = true := by
  decide +kernel

/-- The plant with story 7 KILLED. -/
def killed7 : State := { plant with stories := plant.stories.set1 7 { filed 7 with state := .killed, basket := 0 } }

/-- Witness for PurgeFreesTheRecord. -/
theorem witness_purge : Asked 6 (ask killed7 6 0 [7, 0]) ∧ Asked 6 (ask killed7 6 0 [0, 2]) := by
  unfold Asked
  decide +kernel

/-- R17: the FREE values; a SET story still placed is BAD_STATE. -/
theorem test_purge : run .purge (ask killed7 6 0 [7, 0]) (fun t => answerOf t == (1, 0) && t.story 7 == Story.freed) = true
    ∧ answers .purge (ask (paged7 .set .sent) 6 0 [7, 0]) 8 0 = true := by decide +kernel

/-- Witness for LoadwidthsLoadsOrBegins: built-in, from the last 224 bytes that fit, from one piece beyond them, from a
terminal, and font 4. -/
theorem witness_loadwidths : Asked 7 (ask plant 7 0 [3, 1]) ∧ Asked 7 (ask plant 7 0 [0, 0, 0, 0, 0x20, 0xFF, 0xFF, 0])
    ∧ Asked 7 (ask plant 7 0 [0, 0, 0, 0, 0x30, 0xFF, 0xFF, 0]) ∧ Asked 7 (ask room 7 3 [0, 1])
    ∧ Asked 7 (ask plant 7 0 [4, 1]) := by
  unfold Asked
  decide +kernel

/-- R26, R27: the built-in table at once, with the stories of the font into recount; the source must leave 224 bytes. -/
theorem test_loadwidths : run .loadwidths (ask (quiet filed7) 7 0 [0, 1])
      (fun t => answerOf t == (1, 0) && (t.story 7).fit == .counting && t.copyfit.list == [⟨7, none⟩]) = true
    ∧ run .loadwidths (ask plant 7 0 [0, 0, 0, 0, 0x20, 0xFF, 0xFF, 0])
      (fun t => t.engine.progress == some (.loadingWidths 0 0xFFFF20 [] 0)) = true
    ∧ answers .loadwidths (ask plant 7 0 [0, 0, 0, 0, 0x30, 0xFF, 0xFF, 0]) 17 0 = true := by decide +kernel

/-- A load of font 3 with `k` widths of 5 read, and 37 and 36 in memory next. -/
def loading (k : Nat) : State :=
  { plant with
    engine := ⟨0, 1, some (.loadingWidths 3 0x600000 (List.replicate k 5) 2), false⟩
    mem := (Memory.writeBytes [] (0x600000 + k) [37#8, 36#8]) }

/-- Witness for WidthPiecesFillTheTable: the first piece and the last. -/
theorem witness_widthPiece : (loading 0).grant = some .widthPiece ∧ (loading 208).grant = some .widthPiece := by
  decide +kernel

/-- R26: 37 is clamped to 36 and counted; the 14th piece completes the load. -/
theorem test_widthPieceRead : run .widthPieceRead (loading 208)
      (fun t => answerOf t == (2, 3) && t.copyfit.loaded.at0 false 3
        && (t.copyfit.tables.at0 builtinTable 3).entries.drop 206 == [5, 5, 36, 36] ++ List.replicate 14 0) = true := by
  decide +kernel

/-- Witness for StyleSetsTheStyle. -/
theorem witness_style : Asked 8 (ask filed7 8 2 [7, 0, 0, 20, 120, 0, 22, 0]) ∧ Asked 8 (ask held7 8 1 [7, 0, 4, 145])
    ∧ Asked 8 (ask filed7 8 1 [7, 0]) := by
  unfold Asked
  decide +kernel

/-- R42, R43: 145 is clamped to 144, font 4 to 3, which puts the story into recount; a REPORTER must hold it. -/
theorem test_style : run .style (ask (quiet held7) 8 0 [7, 0, 4, 145, 120, 0, 22, 0])
      (fun t => answerOf t == (2, 0) && (t.story 7).font == 3 && (t.story 7).size == 144
        && (t.story 7).recount == .waiting) = true
    ∧ answers .style (ask filed7 8 1 [7, 0, 0, 20, 120, 0, 22, 0]) 5 0 = true := by decide +kernel

/-- Witness for AllotSetsTheHole. -/
theorem witness_allot : PlacementsRight (ask placed7 9 0 [7, 0, 0, 0, 0xFF, 0xFF, 0, 0])
    ∧ Asked 9 (ask placed7 9 0 [7, 0, 0, 0, 0xFF, 0xFF, 0, 0]) ∧ Asked 9 (ask placed7 9 0 [7, 0, 0, 0, 0, 0, 1, 0]) := by
  refine ⟨placed7_placements .., ?_, ?_⟩ <;> (unfold Asked; decide +kernel)

/-- R40, R44: D is 22 and A 65,535: UNDER; 65,536 is BAD_ARG; the page's entry follows. -/
theorem test_allot : run .allot (ask (quiet placed7) 9 0 [7, 0, 0, 0, 0xFF, 0xFF, 0, 0])
      (fun t => answerOf t == (1, 0) && (t.story 7).fit == .under && (t.page 0).placements == [⟨7, 65535⟩]) = true
    ∧ answers .allot (ask placed7 9 0 [7, 0, 0, 0, 0, 0, 1, 0]) 17 0 = true := by decide +kernel

/-- Story 7 first in the recount list in state `k`, with the cursor at `c` and one M in its last piece. -/
def counting (k : Recount) (tag : Option Nat) (c : Nat) : State :=
  { withStory plant 7 { filed 7 with recount := k, fit := .counting, measure := 36, u := 100 } with
    copyfit := { plant.copyfit with list := [⟨7, tag⟩], cursor := c }
    mem := [(0x1007F0, 0x4D#8), (0x1007F1, 0x1E#8)] }

/-- Witness for RecountsCountTheText: the start with and without a tag, a piece and the last piece. -/
theorem witness_recount : (counting .waiting none 9).copyfit.list = [⟨7, none⟩] ∧ (counting .waiting none 9).part = .running
    ∧ (counting .waiting (some 3) 9).copyfit.list = [⟨7, some 3⟩] ∧ (counting .counting none 224).grant = some .recountPiece
    ∧ (counting .counting none 240).grant = some .recountPiece := by decide +kernel

/-- R35: a load of its font takes a COUNTING story back to the beginning of its block. -/
theorem test_loadwidths_restarts : run .loadwidths (ask (counting .counting none 224) 7 0 [0, 1])
    (fun t => t.copyfit.cursor == 0 && (t.story 7).u == 0 && (t.story 7).recount == .counting
      && t.copyfit.list == [⟨7, none⟩]) = true := by decide +kernel

/-- R33: U, P and the cursor start at 0, once the tag is met. -/
theorem test_recountStart : run .recountStart (counting .waiting none 9)
      (fun t => (t.story 7).u == 0 && (t.story 7).recount == .counting && t.copyfit.cursor == 0) = true
    ∧ run .recountStart (counting .waiting (some 3) 9) (fun t => (t.story 7).recount == .waiting) = true := by decide +kernel

/-- R24, R34: M adds 15, thirteen bytes of zero nothing, 0x1E a paragraph; L is 115 × 20 / 1296 + 1 = 2 and D 44. -/
theorem test_recountPieceRead : run .recountPieceRead (counting .counting none 240)
    (fun t => (t.story 7).u == 115 && (t.story 7).p == 1 && (t.story 7).l == 2 && (t.story 7).d == 44
      && (t.story 7).recount == .idle && t.copyfit.list == []) = true := by decide +kernel

/-! ## Pages -/

/-- Witness for SetpageGivesAnIdentity. -/
theorem witness_setpage : Asked 13 (ask plant 13 0 [95, 4, 0x5A, 0, 0xE7, 3]) ∧ Asked 13 (ask plant 13 0 [96]) := by
  unfold Asked
  decide +kernel

/-- R68: page 95, printed 999, edition 4, section Z; 1,000 is BAD_ARG; page 96 is NO_PAGE. -/
theorem test_setpage : run .setpage (ask plant 13 0 [95, 4, 0x5A, 0, 0xE7, 3])
      (fun t => answerOf t == (1, 0) && t.page 95 == ⟨999, 4, 0x5A, .empty, [], 0, 0⟩) = true
    ∧ answers .setpage (ask plant 13 0 [95, 4, 0x5A, 0, 0xE8, 3]) 17 0 = true
    ∧ answers .setpage (ask plant 13 0 [96]) 7 0 = true := by decide +kernel

/-- Story 7 FILED on no page, and page 0 EMPTY with an identity. -/
def toPlace : State := { filed7 with pages := filed7.pages.set0 0 ⟨1, 1, 0x41, .empty, [], 0, 0⟩ }

/-- Witness for PlaceAppendsToThePage. -/
theorem witness_place : Asked 14 (ask toPlace 14 2 [7, 0, 0, 0, 22, 0]) ∧ Asked 14 (ask toPlace 14 2 [7, 0, 96])
    ∧ Asked 14 (ask toPlace 14 0 [7, 0, 0, 0, 0, 0, 1, 0]) := by
  unfold Asked
  decide +kernel

/-- R69, R70: position 0, and the page becomes MAKEUP; a placed story is BAD_STATE; 65,536 is BAD_ARG. -/
theorem test_place : run .place (ask (quiet toPlace) 14 0 [7, 0, 0, 0, 22, 0])
      (fun t => answerOf t == (1, 0) && (t.story 7).placement == some (0, 0) && (t.page 0).state == .makeup) = true
    ∧ answers .place (ask placed7 14 2 [7, 0, 0, 0, 22, 0]) 8 0 = true
    ∧ answers .place (ask toPlace 14 0 [7, 0, 0, 0, 0, 0, 1, 0]) 17 0 = true := by decide +kernel

/-- Witness for UnplaceRemovesThePlacement. -/
theorem witness_unplace : PlacementsRight (ask placed7 15 2 [7, 0]) ∧ Asked 15 (ask placed7 15 2 [7, 0])
    ∧ PlacementsRight (ask filed7 15 2 [7, 0]) ∧ Asked 15 (ask filed7 15 2 [7, 0]) := by
  refine ⟨placed7_placements .., ?_, filed7_placements .., ?_⟩ <;> (unfold Asked; decide +kernel)

/-- R71: the page keeps its state with an empty list, the story its hole. -/
theorem test_unplace : run .unplace (ask (quiet placed7) 15 0 [7, 0])
      (fun t => answerOf t == (1, 0) && (t.story 7).placement == none && (t.story 7).hole == 22
        && t.page 0 == ⟨1, 1, 0x41, .makeup, [], 0, 0⟩) = true
    ∧ answers .unplace (ask filed7 15 2 [7, 0]) 8 0 = true := by decide +kernel

/-- Witness for ReleaseQueuesThePage, one that is released and one refused. -/
theorem witness_release : PlacementsRight (ask placed7 16 2 [0, 0]) ∧ Asked 16 (ask placed7 16 2 [0, 0])
    ∧ Asked 16 (ask placed7 16 2 [96, 0]) := by
  refine ⟨placed7_placements .., ?_, ?_⟩ <;> (unfold Asked; decide +kernel)

/-- R72, R73: QUEUED, at the back of the send queue, out of its basket; UNFIT names the story; an EDITOR's override does not
count and the system's does. -/
theorem test_release : run .release (ask (quiet placed7) 16 0 [0, 0])
      (fun t => answerOf t == (1, 0) && (t.page 0).state == .queued && t.sendQueue == [0]
        && (t.story 7).state == .queued && t.basket 1 == []) = true
    ∧ answers .release (ask (paged7 .filed .makeup) 16 2 [0, 1]) 16 7 = true
    ∧ answers .release (ask (paged7 .filed .makeup) 16 0 [0, 1]) 1 0 = true := by decide +kernel

/-- Witness for ReopenReturnsThePage. -/
theorem witness_reopen : PlacementsRight (ask (paged7 .set .sent) 17 0 [0, 23])
    ∧ Asked 17 (ask (paged7 .set .sent) 17 0 [0, 23]) ∧ Asked 17 (ask (paged7 .set .sent) 17 0 [0, 24]) := by
  refine ⟨paged7_placements .set .sent 17 0 [0, 23] (by decide) (by decide), ?_, ?_⟩ <;> (unfold Asked; decide +kernel)

/-- R80: MAKEUP; the story FILED in basket 23, still placed. -/
theorem test_reopen : run .reopen (ask (quiet (paged7 .set .sent)) 17 0 [0, 23])
      (fun t => answerOf t == (1, 0) && (t.page 0).state == .makeup && (t.story 7).state == .filed
        && t.basket 23 == [7] && (t.story 7).placement == some (0, 0)) = true
    ∧ answers .reopen (ask (paged7 .set .sent) 17 0 [0, 24]) 17 0 = true := by decide +kernel

/-- Witness for ClearEmptiesThePage. -/
theorem witness_clear : PlacementsRight (ask (paged7 .queued .faulted) 18 0 [0])
    ∧ Asked 18 (ask (paged7 .queued .faulted) 18 0 [0]) ∧ Asked 18 (ask (paged7 .queued .faulted) 18 2 [0]) := by
  refine ⟨paged7_placements .queued .faulted 18 0 [0] (by decide) (by decide), ?_, ?_⟩ <;> (unfold Asked; decide +kernel)

/-- R81: EMPTY with its identity; the QUEUED story FILED in basket 23; an EDITOR may not clear a FAULTED page. -/
theorem test_clear : run .clear (ask (quiet (paged7 .queued .faulted)) 18 0 [0])
      (fun t => answerOf t == (1, 0) && t.page 0 == ⟨1, 1, 0x41, .empty, [], 0, 0⟩ && t.basket 23 == [7]
        && (t.story 7).placement == none) = true
    ∧ answers .clear (ask (paged7 .queued .faulted) 18 2 [0]) 5 0 = true := by decide +kernel

/-- Witness for ResumeRequeuesThePage, in both modes. -/
theorem witness_resume : Asked 19 (ask (paged7 .set .faulted) 19 0 [0, 1]) ∧ Asked 19 (ask (paged7 .set .faulted) 19 3 [0, 2])
    ∧ Asked 19 (ask (paged7 .set .faulted) 19 0 [0, 3]) := by
  unfold Asked
  decide +kernel

/-- R79: at the head of the send queue; FROM_START makes the SET story QUEUED; mode 3 is BAD_ARG. -/
theorem test_resume : run .resume (ask (quiet { paged7 .set .faulted with sendQueue := [5] }) 19 0 [0, 2])
      (fun t => answerOf t == (1, 0) && t.sendQueue == [0, 5] && (t.story 7).state == .queued) = true
    ∧ answers .resume (ask (paged7 .set .faulted) 19 0 [0, 3]) 17 0 = true := by decide +kernel

/-! ## RELOAD and the part's own writes -/

/-- A RELOAD that has read `k` bytes: `head`, and zeros behind it. -/
def reading (k : Nat) (head : List Byte) : State :=
  { plant with engine := ⟨0, 1, some (.reloading (head ++ List.replicate (k - head.length) 0#8)), false⟩ }

/-- Witness for ReloadIsReadAndValidated: a RELOAD of the system and one of a terminal, the first piece and the last. -/
theorem witness_reload : (ask plant 21 0 []).grant = some .requestRead ∧ (ask plant 21 0 []).request.kind = 21
    ∧ (ask plant 21 0 []).knownRequester (ask plant 21 0 []).request.requester = true
    ∧ (ask (only 3 .slot) 21 3 []).grant = some .requestRead
    ∧ (ask (only 3 .slot) 21 3 []).knownRequester (ask (only 3 .slot) 21 3 []).request.requester = true
    ∧ (reading 0 []).grant = some .reloadPiece ∧ (reading 1264 []).grant = some .reloadPiece := by decide +kernel

/-- R166: accepted from the system; BUSY while a page is SENDING; RANK from a terminal. -/
theorem test_reload : run .reload (ask plant 21 0 []) (fun t => t.engine.progress == some (.reloading [])) = true
    ∧ answers .reload { ask plant 21 0 [] with link := { plant.link with state := .sending } } 13 0 = true
    ∧ answers .reload (ask (only 3 .slot) 21 3 []) 5 0 = true := by decide +kernel

/-- R167: all zeros has G, both slices, the start terminal and 16 stop-bit counts clamped, which is 20; mode 2 is BAD_CONFIG;
a relocation word of 16 MiB is BAD_ARG. -/
theorem test_reloadPieceRead : answers .reloadPieceRead (reading 1264 []) 2 20 = true
    ∧ answers .reloadPieceRead (reading 1264 (List.replicate 65 0#8 ++ [2#8])) 18 0 = true
    ∧ run .reloadPieceRead (reading 1264 [0#8, 0#8, 0#8, 1#8])
      (fun t => answerOf t == (17, 0) && t.part == .passThrough) = true := by decide +kernel

/-- 1,264 bytes of a configuration, zero but at these offsets; the terminal map starts at 256. -/
def configured (l : List (Nat × Nat)) : List Byte :=
  l.foldl (fun bs x => bs.set x.1 (BitVec.ofNat 8 x.2)) (List.replicate 1264 0#8)

/-- Terminal 1 a REPORTER on drop 0 of line 0, with home basket 1, its screen at 0x300000 and its ring at 0x380000. -/
def one : List (Nat × Nat) := [(256, 1), (259, 1), (260, 1), (266, 0x30), (270, 0x38)]

/-- Terminal 2 like it, on drop `d`, with its screen at 0x310000 and its ring at 0x390000. -/
def two (d : Nat) : List (Nat × Nat) := [(272, 1), (274, d), (275, 1), (276, 1), (282, 0x31), (286, 0x39)]

/-- Witness for ReloadIsReadAndValidated, with an error and with none. -/
theorem witness_structural : HasStructuralError plant (configured (one ++ two 0) ++ List.replicate 16 0#8) 0 False
    ∧ ¬HasStructuralError plant (configured [] ++ List.replicate 16 0#8) 0 False := by
  have off : ∀ k, k < 65 → termField (configured [] ++ List.replicate 16 0#8) k 0 1 = 0 := by decide +kernel
  have line : ∀ n, n < 16 → lineField (configured [] ++ List.replicate 16 0#8) n 1 1 = 0
      ∧ lineField (configured [] ++ List.replicate 16 0#8) n 2 1 = 0 := by decide +kernel
  have no : ∀ k, ¬(1 ≤ k ∧ k ≤ 64 ∧ termField (configured [] ++ List.replicate 16 0#8) k 0 1 ≠ 0) :=
    fun k h => h.2.2 (off k (by omega))
  refine ⟨.inl ⟨1, 2, by decide, by decide +kernel, by decide +kernel, by decide +kernel, by decide +kernel⟩, ?_⟩
  rintro (⟨k, _, _, h, _⟩ | ⟨k, h, _⟩ | ⟨k, h, _⟩ | ⟨k, h, _⟩ | (⟨k, h, _⟩ | ⟨n, hn, h⟩) | ⟨k, h, _⟩ | ⟨k, h, _⟩ | ⟨k, h, _⟩
    | ⟨h, _⟩)
  case _ => exact no k h
  all_goals first | exact no k h | exact h | (have := line n hn; omega)

/-- R167: each error of terminal 1's record: a drop of a DIRECT line, line 16, drop 4, basket 0 and 24, rank 0 and 4, a screen at
1, at 0 and past the end, a ring at 2, at 0 and past the end; a screen and a ring that end with memory are no error. -/
theorem test_terminal_errors :
    ([one ++ [(258, 1)], one ++ [(257, 16)], (65, 1) :: one ++ [(258, 4)], one ++ [(260, 0)], one ++ [(260, 24)], one ++ [(259, 0)],
        one ++ [(259, 4)], one ++ [(264, 1)], one ++ [(266, 0)], one ++ [(264, 0xE0), (265, 0xF8), (266, 0xFF)],
        one ++ [(268, 2)], one ++ [(270, 0)], one ++ [(268, 0xC0), (269, 0xFF), (270, 0xFF)]].all
      (fun l => badTerm (configured l) (configOf (configured l)) 0 1)) = true
    ∧ ([one, (65, 1) :: one ++ [(258, 3)], one ++ [(264, 0xD0), (265, 0xF8), (266, 0xFF)],
        one ++ [(268, 0xBC), (269, 0xFF), (270, 0xFF)]].all
      (fun l => !badTerm (configured l) (configOf (configured l)) 0 1)) = true := by decide +kernel

/-- R167: the other errors: one drop twice, parity 3, and a move onto a story's text. -/
theorem test_other_errors : clash (configOf (configured (one ++ two 0))) = true ∧ badLine (configured [(66, 3)]) 0 = true
    ∧ ({ plant with stories := plant.stories.set1 7 (filed 7) } : State).baseOverText 0x100000 = true
    ∧ ({ plant with stories := plant.stories.set1 7 (filed 7) } : State).baseOverText 0x110000 = false := by decide +kernel

/-- The lines, with an answer to a poll coming in on line 0. -/
def pollingLines : Table 16 Line :=
  room.lines.set0 0 { room.line 0 with tx := .answer, rx := .frame true, pollPtr := some 1, answerFrames := 3, answerKeys := 3 }

/-- Witness for PassThroughStopsTheBlocks: a relocation word of 1, which is no multiple of 64 KiB; R129, R164, R169; R147: a
poll in progress ends and its drop record stays. -/
theorem test_passThrough : (reading 1264 [1#8]).grant = some .reloadPiece
    ∧ leNat (([1#8] ++ List.replicate 1263 0#8 ++ (reading 1264 [1#8]).mem.readBytes 0xDF0 16).take 4) % 65536 ≠ 0
    ∧ run .reloadPieceRead (reading 1264 [1#8]) (fun t => t.pins.attn && t.link.state == .halted && t.cause == .badBase
        && t.notices.unwritten.map (fun q => (q.kind, q.cause)) == [(.pass, .badBase)]) = true
    ∧ { reading 1264 [1#8] with part := .running, lines := pollingLines }.grant = some .reloadPiece
    ∧ run .reloadPieceRead { reading 1264 [1#8] with part := .running, lines := pollingLines } (fun t => t.line 0 ==
        { pollingLines.at0 Line.off 0 with tx := .idle, hold := none, answerFrames := 0, answerKeys := 0, rx := .looking }) = true := by
  decide +kernel

/-- The request at index 31 has its outcome and note. -/
def answering (o : ReqOutcome) (note : Nat) (after : AfterOutcome) : State :=
  { plant with engine := ⟨31, 4, some (.answered o note after), false⟩ }

/-- Witness for OutcomesAreWritten; R162: bytes 2 to 5 of the record at 0x200 + 32 × 31, and the index wraps to 0. -/
theorem test_outcomeWrite : (answering .clamped 0x0102 .plain).grant = some .outcomeWrite
    ∧ run .outcomeWrite (answering .clamped 0x0102 .plain)
      (fun t => t.mem.readBytes 0x5E2 4 == [2#8, 0#8, 2#8, 1#8] && t.engine.consumer == 0 && t.engine.wordFlag) = true := by
  decide +kernel

/-- R101: the bytes of an outcome write that a reset finds in progress reach memory; a read leaves it as it was. -/
theorem test_reset_finishes_a_write :
    ((answering .clamped 0x0102 .plain).memoryAfter .outcomeWrite).readBytes 0x5E2 4 = [2#8, 0#8, 2#8, 1#8]
    ∧ (answering .clamped 0x0102 .plain).memoryAfter .rowRead = [] := by decide +kernel

/-- A configuration with terminal 2 a SLOT on DIRECT line 0. -/
def newConfig : LoadedConfig :=
  ⟨3, 9, 25, 2, 3, 7, (Table.fill 16 LineCfg.off).set0 0 ⟨true, .direct, .off, false, 32⟩,
    (Table.fill 64 TermCfg.off).set1 2 ⟨true, 0, 0, .slot, 4, 0x400000, 0x410000⟩⟩

/-- Witness for ReloadTakesEffect, with a move and without one; R99, R144, R152, R168. -/
theorem test_reload_takes_effect :
    (answering .done 0 (.configured newConfig (some 0x30000))).grant = some .outcomeWrite
    ∧ run .outcomeWrite (answering .done 0 (.configured newConfig (some 0x30000)))
      (fun t => t.base == 0x30000 && t.engine.consumer == 0 && t.lineActive 0 && (t.term 2).dirtyCount == 24
        && (t.term 2).ring == some ⟨0, 0, false, true⟩ && t.scanner.pos == 7 && t.clock.grace == 25) = true
    ∧ run .outcomeWrite { answering .done 0 (.configured newConfig (some 0x30000)) with path := { plant.path with
        queue := [⟨0x100, [1#8, 0#8], [[.contextWord], [.hostLocation, .text 7 3]], 4⟩] } }
      (fun t => t.path.queue == [⟨0x100, [1#8, 0#8], [[.plain], [.text 7 3]], 4⟩]) = true
    ∧ (answering .done 0 (.configured newConfig none)).grant = some .outcomeWrite
    ∧ run .outcomeWrite (answering .done 0 (.configured newConfig none)) (fun t => t.engine.latest == 4 && t.base == 0) = true := by
  decide +kernel

/-- The request consumer index word, a notice in slot 63, the notice producer word and the time word wait to be written. -/
def wordWaits : State := { plant with engine := ⟨31, 31, some .indexWord, true⟩ }

def noticeWaits : State :=
  { plant with notices := { plant.notices with
      published := 63, consumer := 63, unwritten := [{ plant.notice .keyloss .guarded with terminal := some 64, story := 511 }] } }

def producerWaits : State := { plant with notices := { plant.notices with published := 63, overflow := true, wordFlag := true } }

def imageWaits : State := { plant with marks := [.time], clock := { plant.clock with time := 0x15180 - 1 } }

/-- Witness for ThePartWritesItsRecords. -/
theorem witness_records : wordWaits.grant = some .consumerWord ∧ noticeWaits.grant = some .noticeRecord
    ∧ producerWaits.grant = some .producerWord ∧ imageWaits.grant = some (.image .time) := by decide +kernel

/-- R162, R175: the index in the word's low byte. -/
theorem test_requestConsumerWrite : run .requestConsumerWrite wordWaits
    (fun t => t.mem.read 0x114 == 31#8 && t.engine.progress == none) = true := by decide +kernel

/-- R176: kind 4, terminal 64, page none, cause 14, story 511, unit none; R164: ATTN. -/
theorem test_noticeRecordWrite : run .noticeRecordWrite noticeWaits
    (fun t => t.mem.readBytes 0x9F0 8 == [4#8, 64#8, 0xFF#8, 14#8, 0xFF#8, 1#8, 0xFF#8, 0#8] && t.pins.attn
      && t.notices.published == 0) = true := by decide +kernel

/-- R163, R175: published producer and overflow mark. -/
theorem test_noticeProducerWrite : run .noticeProducerWrite producerWaits
    (fun t => t.mem.readBytes 0x118 4 == [63#8, 1#8, 0#8, 0#8] && !t.notices.wordFlag) = true := by decide +kernel

/-- R178: story 7 in basket 1, filed ahead of story 9: FILED, IDLE with fit UNSET, placed nowhere, and its basket link. -/
theorem test_imageWrite : run .imageWrite { withStory (withStory plant 7 (filed 7)) 9 (filed 9) with marks := [.story 7] }
    (fun t => t.mem.readBytes 0x10E0 32 == [1#8, 0#8, 1#8, 0#8, 0#8, 0#8, 0xFF#8, 0xFF#8, 0#8, 7#8, 0x10#8, 0#8, 1#8, 20#8,
      120#8, 0#8, 22#8, 0#8, 0#8, 0#8, 0#8, 0#8, 0#8, 0#8, 0#8, 0#8, 0#8, 0#8, 0#8, 0#8, 9#8, 0#8] && t.marks == []) = true := by
  decide +kernel

/-- NoOtherCommandWritesMemory, at the ends of a write; the canonical form drops a byte of 0. -/
theorem test_memory : (Memory.writeBytes [] 5 [1#8, 0#8, 3#8]) = [(5, 1#8), (7, 3#8)]
    ∧ (Memory.writeBytes [(6, 9#8)] 5 [1#8, 0#8]).read 6 = 0#8 := by decide

/-! ## The arbiter -/

/-- Where only the path and the notices differ from the plant, nothing but a notice or the producer word waits at an engine. -/
theorem plant_waits {w : NoticeWriter} {p : Path} {o : MemOp} (h : 1 ≤ o.rank)
    (hw : Waits { plant with notices := w, path := p } o) :
    (o = .noticeRecord ∧ w.unwritten ≠ []) ∨ (o = .producerWord ∧ w.unwritten = [] ∧ w.wordFlag = true) := by
  cases o with
  | noticeRecord => exact .inl ⟨rfl, hw⟩
  | producerWord => exact .inr ⟨rfl, hw⟩
  | processorRead => exact absurd h (by decide)
  | drain => exact absurd h (by decide)
  | keyRecord n =>
    have : ∀ n, n < 16 → (plant.line n).buffer = none := by decide +kernel
    exact absurd (this n hw.2.1) hw.2.2
  | keyHeader n k =>
    have : ∀ k, k < 65 → (plant.term k).cfg.enabled = false := by decide +kernel
    obtain ⟨_, _, _, h1, h2, ⟨h3, _⟩, _⟩ := hw
    exact absurd ((this k (by omega)).symm.trans h3) (by decide)
  | linkText => cases hw.1
  | requestRead => exact absurd rfl hw.2.2
  | outcomeWrite => obtain ⟨_, _, _, e⟩ := hw; cases e
  | consumerWord => cases hw.1
  | reloadPiece => obtain ⟨_, e⟩ := hw; cases e
  | image i => obtain ⟨b, a, e, _⟩ := hw; cases b <;> cases e
  | rowRead => exact absurd rfl hw.2
  | recountPiece => obtain ⟨_, _, _, e, _⟩ := hw; cases e
  | widthPiece => obtain ⟨_, _, _, _, e⟩ := hw; cases e

/-- Witness for TheArbiterGrantsInTurn, an engine's choice. -/
theorem witness_engineChoice : EngineChoice noticeWaits .noticeRecord ∧ EngineChoice producerWaits .producerWord := by
  refine ⟨⟨by decide, by unfold Waits; decide +kernel, fun o h hw => ?_⟩,
    ⟨by decide, by unfold Waits; decide +kernel, fun o h hw => ?_⟩⟩
  · rcases plant_waits h hw with ⟨rfl, _⟩ | ⟨rfl, e, _⟩
    · exact .inr ⟨rfl, Nat.le_refl _⟩
    · exact absurd e (by decide)
  · rcases plant_waits h hw with ⟨rfl, e⟩ | ⟨rfl, _⟩
    · exact absurd rfl e
    · exact .inr ⟨rfl, Nat.le_refl _⟩

/-- Witness for TheArbiterGrantsInTurn, no engine waits and an entry does. -/
theorem witness_no_engine : ∀ o : MemOp, 1 ≤ o.rank → ¬Waits (queued [entry 0x500000 [1#8] .plain]) o := by
  intro o h hw
  rcases plant_waits h hw with ⟨_, e⟩ | ⟨_, _, e⟩
  · exact absurd rfl e
  · exact absurd e (by decide)

/-- A notice, the time word and a piece of a recount wait, with `n` entries queued, the turn and class 3's rotation as given. -/
def contended (n : Nat) (turn : Turn) (rot : Nat) : State :=
  { noticeWaits with
    path := { plant.path with queue := List.replicate n (entry 0x500000 [1#8] .plain), turn := turn, rot3 := rot }
    marks := [.time], copyfit := { plant.copyfit with list := [⟨7, none⟩] }
    stories := plant.stories.set1 7 { filed 7 with recount := .counting } }

/-- R97, R98: an engine's turn, with class 3 before class 5 and in rotation; a drain's turn; an engine alone; pressure by 4
entries and by a held write; a processor read; nothing. -/
theorem test_arbiter :
    (contended 1 .engine 0).grant = some .noticeRecord ∧ (contended 1 .engine 2).grant = some (.image .time)
    ∧ (contended 1 .drain 0).grant = some .drain ∧ (contended 0 .drain 0).grant = some .noticeRecord
    ∧ (contended 4 .engine 0).grant = some .drain
    ∧ { contended 1 .engine 0 with path := { (contended 1 .engine 0).path with held := some ⟨0, [1#8]⟩ } }.grant = some .drain
    ∧ { contended 4 .engine 0 with path := { (contended 4 .engine 0).path with read := some ⟨0, 1⟩ } }.grant = some .processorRead
    ∧ plant.grant = none := by decide +kernel

/-- R98: an ordinary drain turns the mark, a pressure drain does not, and an engine's operation turns it and moves the rotation;
a command whose operation is not granted waits. -/
theorem test_arbiter_marks :
    run .drain (contended 1 .drain 0) (fun t => t.path.turn == .engine) = true
    ∧ run .drain (contended 4 .drain 0) (fun t => t.path.turn == .drain) = true
    ∧ run .noticeRecordWrite (contended 1 .engine 0) (fun t => t.path.turn == .drain && t.path.rot3 == 2) = true
    ∧ run .imageWrite (contended 1 .engine 0) (fun t => t == contended 1 .engine 0) = true := by decide +kernel
/-- Witness for TheArbiterGrantsInTurn, a command that is served and one that waits. -/
theorem witness_serves : Serves (contended 1 .engine 0) .noticeRecordWrite .noticeRecord
    ∧ Instr.imageWrite ∈ memoryCommands
    ∧ ∀ o, Serves (contended 1 .engine 0) .imageWrite o → (contended 1 .engine 0).grant ≠ some o := by
  have e : (contended 1 .engine 0).grant = some .noticeRecord := by decide +kernel
  refine ⟨.notice, by decide, ?_⟩
  rintro _ ⟨⟩
  all_goals (rw [e]; simp)

/-! ## The typesetter link -/

/-- Page 0 with story 7 at the head of the send queue; LREADY is `ready`. -/
def toSend (ready : Bool) : State :=
  quiet { paged7 .queued .queued with
    sendQueue := [0], link := { room.link with divisor := 1 }, pins := { room.pins with lready := ready } }

/-- Witness for SendStartTakesTheHeadPage, under its conditions and outside them. -/
theorem witness_sendStart : (toSend true).sendQueue = [0] ∧ (toSend true).link.hold = none ∧ (toSend true).link.shift = none
    ∧ (toSend true).link.state = .idle ∧ (toSend true).part = .running ∧ (toSend true).link.divisor ≠ 0
    ∧ (toSend true).pins.lfault = false ∧ (toSend true).link.waitReady = false ∧ (toSend true).reloadInProgress = false
    ∧ (quiet (paged7 .queued .queued)).link.divisor = 0 := by decide +kernel

/-- R76, R117: the page and its story SENDING, and PAGE_START in the shift register. -/
theorem test_sendStart : run .sendStart (toSend true)
    (fun t => (t.page 0).state == .sending && (t.story 7).state == .sending && t.sendQueue == []
      && t.link.shift == some ⟨true, 1#8, .pageStart⟩ && t.link.hold == some ⟨true, 0#8, .pageStart⟩) = true := by
  decide +kernel

/-- The context of a send of page 0, from scan offset 3 of its one story. -/
def ctx (pos : StreamPos) (piece : List Byte) : SendCtx := ⟨0, 999, 4, 0x5A, [⟨7, 22⟩], 0, 3, true, none, pos, setupBytes 7 (filed 7), piece⟩

/-- Witness for TheStreamOfASend: each clause has a context at each end of its range; R115, R118, R120: the last argument of
PAGE_START is the resume flag; MEASURE ends with 120; 0x1F makes no frame, 0x20 does; the text ends at offset 256. -/
theorem test_stream : sending7.nextFrame (ctx (.pageStart 0) []) = (some ⟨true, 1#8, .pageStart⟩, ctx (.pageStart 1) [])
    ∧ sending7.nextFrame (ctx (.pageStart 5) []) = (some ⟨true, 1#8, .pageStart⟩, ctx (.setup 0 0) [])
    ∧ sending7.nextFrame (ctx (.setup 0 0) []) = (some ⟨true, 2#8, .setup 0⟩, ctx (.setup 0 1) [])
    ∧ sending7.nextFrame (ctx (.setup 0 12) []) = (some ⟨true, 120#8, .setup 0⟩, ctx (.text 0 3) [])
    ∧ sending7.nextFrame (ctx (.text 0 3) [0x1F#8, 0x20#8]) = (some ⟨false, 0x20#8, .text 0 4⟩, ctx (.text 0 5) [])
    ∧ sending7.nextFrame (ctx (.text 0 3) [0x1E#8]) = (some ⟨true, 7#8, .text 0 3⟩, ctx (.text 0 4) [])
    ∧ sending7.nextFrame (ctx (.text 0 255) []) = (none, ctx (.text 0 255) [])
    ∧ sending7.nextFrame (ctx (.text 0 256) []) = (some ⟨true, 8#8, .storyEnd 0⟩, ctx .pageEnd [])
    ∧ sending7.nextFrame (ctx .pageEnd []) = (some ⟨true, 9#8, .pageEnd⟩, ctx .finished []) := by decide +kernel

/-- A send of page 0 at `pos`, with these frames in the holding buffer and the shift register, LREADY as `ready` and the
timer at 5 of 5. -/
def sendingAt (pos : StreamPos) (hold shift : Option LinkFrame) (ready : Bool) : State :=
  { quiet sending7 with
    pins := { plant.pins with lready := ready }
    link := ⟨1, 5, .sending, hold, shift, 5, false, some (ctx pos [])⟩
    mem := [(0x100710, 0x41#8), (0x100711, 0x42#8)] }

/-- Witness for LinkTextIsReadInPieces, within the block's second piece and at its last byte. -/
theorem witness_linkTextRead : (sendingAt (.text 0 17) none none true).grant = some .linkText
    ∧ (sendingAt (.text 0 255) none none true).grant = some .linkText := by decide +kernel

/-- R116, R120: offset 17 is the second byte of the piece at 0x100710; a piece of zeros gives no frame; without LREADY the
frame is held. -/
theorem test_linkTextRead : run .linkTextRead (sendingAt (.text 0 17) none none true)
      (fun t => t.link.shift == some ⟨false, 0x42#8, .text 0 17⟩ && t.link.hold == none) = true
    ∧ run .linkTextRead (sendingAt (.text 0 33) none none true)
      (fun t => t.link.shift == none && t.link.hold == none && t.link.ctx.map (fun c => c.pos) == some (.text 0 48)) = true
    ∧ run .linkTextRead (sendingAt (.text 0 16) none none false)
      (fun t => t.link.shift == none && t.link.hold == some ⟨false, 0x41#8, .text 0 16⟩) = true := by decide +kernel

/-- R115: PARA on LTXD: start, 7 least significant bit first, the mark bit, stop. -/
theorem test_ltxd : ({ plant.link with shift := some ⟨true, 7#8, .text 0 9⟩ } : Link).ltxd
    = [false, true, true, true, false, false, false, false, false, true, true] := by decide

/-- Witness for ShiftCompletionsCompleteTheSend, for a STORY_END, a PAGE_END, another frame and a HALTED link; R77, R122. -/
theorem test_linkShiftCompletion :
    run .linkShiftCompletion (sendingAt .pageEnd none (some ⟨true, 8#8, .storyEnd 0⟩) true)
      (fun t => (t.story 7).state == .set && (t.page 0).resumePos == 1 && t.link.shift == some ⟨true, 9#8, .pageEnd⟩) = true
    ∧ run .linkShiftCompletion (sendingAt .finished none (some ⟨true, 9#8, .pageEnd⟩) true)
      (fun t => (t.page 0).state == .sent && t.link.state == .idle
        && t.notices.unwritten.map (fun q => (q.kind, q.page)) == [(.sent, some 0)]) = true := by decide +kernel

/-- Witness for ShiftCompletionsCompleteTheSend; R115, R121: frame 5 of the setup is SIZE; without LREADY it waits as it is. -/
theorem witness_linkShiftCompletion :
    run .linkShiftCompletion (sendingAt (.setup 0 5) (some ⟨true, 0#8, .setup 0⟩) (some ⟨true, 3#8, .setup 0⟩) true)
      (fun t => t.link.shift == some ⟨true, 0#8, .setup 0⟩ && t.link.hold == some ⟨true, 4#8, .setup 0⟩
        && t.link.ctx == some (ctx (.setup 0 6) [])) = true ∧
    run .linkShiftCompletion (sendingAt (.setup 0 5) none (some ⟨true, 4#8, .setup 0⟩) false) (fun t => t.link.shift == none) = true
    ∧ run .linkShiftCompletion { plant with link := { plant.link with state := .halted, shift := some ⟨true, 9#8, .pageEnd⟩ } }
      (fun t => t.link.shift == none && t.link.state == .halted) = true := by decide +kernel

/-- Witness for LinkInputs, in a send and outside one, with each input at each level; R116, R121, R123, R126:
the emptied holding buffer takes PAGE_END. -/
theorem test_link_inputs :
    run .lreadyAssert (sendingAt .pageEnd (some ⟨false, 0x41#8, .text 0 9⟩) none false)
      (fun t => t.link.shift == some ⟨false, 0x41#8, .text 0 9⟩ && t.link.timer == 0
        && t.link.hold == some ⟨true, 9#8, .pageEnd⟩ && t.link.ctx == some (ctx .finished [])) = true
    ∧ run .lreadyDeassert (toSend true) (fun t => !t.pins.lready) = true
    ∧ run .lfaultAssert (toSend true) (fun t => t.pins.lfault && t.link.state == .idle) = true
    ∧ run .lfaultDeassert { plant with pins := { plant.pins with lfault := true } } (fun t => !t.pins.lfault) = true := by
  decide +kernel

/-- Witness for FaultsStopTheSend, for LFAULT, for a timer that has reached T and for one that has not; R124, R126: the frame
in the holding buffer decides. -/
theorem test_linkTimeout :
    run .linkTimeout (sendingAt .pageEnd (some ⟨false, 0x41#8, .text 0 9⟩) none false)
      (fun t => (t.page 0).state == .faulted && (t.page 0).resumeOff == 9 && (t.story 7).state == .queued && t.link.waitReady
        && t.notices.unwritten.map (fun q => (q.kind, q.cause, q.story)) == [(.fault, .timeout, 7)]) = true
    ∧ run .linkTimeout { sendingAt .pageEnd (some ⟨false, 0x41#8, .text 0 9⟩) none false with
        link := { (sendingAt .pageEnd (some ⟨false, 0x41#8, .text 0 9⟩) none false).link with timer := 4 } }
      (fun t => (t.page 0).state == .sending) = true := by decide +kernel

theorem test_lfaultAssert : run .lfaultAssert (sendingAt .pageEnd (some ⟨false, 0x41#8, .text 0 9⟩) (some ⟨true, 8#8, .storyEnd 0⟩) true)
    (fun t => ((t.page 0).resumePos, (t.page 0).resumeOff) == (0, 3) && t.pins.lfault && !t.link.waitReady) = true := by
  decide +kernel

/-- Witness for FaultsStopTheSend, with no frame in either register, one in the holding buffer, and one in each; R124. -/
theorem test_fault_point : resumePoint (sendingAt (.text 0 255) none none true) (ctx (.text 0 255) []) = (0, 255)
    ∧ resumePoint (sendingAt (.text 0 256) none none true) (ctx (.text 0 256) []) = (0, 3)
    ∧ resumePoint (sendingAt .pageEnd none none true) (ctx .pageEnd []) = (1, 0)
    ∧ resumePoint (sendingAt (.setup 0 2) none none true) (ctx (.setup 0 2) []) = (0, 3)
    ∧ resumePoint (sendingAt (.text 0 90) (some ⟨false, 0x41#8, .text 0 9⟩) none true) (ctx (.text 0 90) []) = (0, 9)
    ∧ resumePoint (sendingAt .pageEnd (some ⟨true, 9#8, .pageEnd⟩) (some ⟨true, 8#8, .storyEnd 0⟩) true) (ctx .pageEnd [])
      = (0, 3) := by decide +kernel

/-! ## Terminal lines -/

/-- The room with line 0 changed. -/
def lined (f : Line → Line) : State := { room with lines := room.lines.set0 0 (f (room.line 0)) }

/-- The same with line 0 DIRECT and no drop records. -/
def direct (f : Line → Line) : State :=
  lined (fun l => f { l with cfg := { l.cfg with mode := .direct }, drops := Table.fill 4 none, pollPtr := none })

/-- Line 0 with all three flags set. -/
def flagged : State := lined (fun l => { l with error := true, overrun := true, brk := true })

/-- Witness for LineclearClearsTheFlags: the system, for lines 0, 15 and 16, and a SLOT. -/
theorem witness_lineclear : Asked 20 (ask flagged 20 0 [0]) ∧ Asked 20 (ask flagged 20 0 [15]) ∧ Asked 20 (ask flagged 20 0 [16])
    ∧ Asked 20 (ask flagged 20 3 [0]) := by
  unfold Asked
  decide +kernel

/-- R143: the note shows the three flags; line 16 is BAD_ARG; an EDITOR is RANK. -/
theorem test_lineclear : run .lineclear (ask flagged 20 3 [0])
      (fun t => answerOf t == (1, 7) && !(t.line 0).error && !(t.line 0).overrun && !(t.line 0).brk) = true
    ∧ answers .lineclear (ask flagged 20 0 [16]) 17 0 = true ∧ answers .lineclear (ask flagged 20 2 [0]) 5 0 = true := by
  decide +kernel

/-- A row of terminal 2, whose characters are all B. -/
def rowB : RowRec := ⟨2, 5, List.replicate 80 0x42#8⟩

/-- A line that sends `rowB`, with its frame `k` the next to produce. -/
def sendingRow (k : Nat) (last : Bool) (l : Line) : Line :=
  { l with
    tx := .row, rowPos := k, queue := [rowB], shift := some (l.cfg.frame false 0x42#8 (.row last))
    hold := if last then none else some (l.cfg.frame false 0x42#8 (.row (decide (k = 83)))) }

/-- Witness for RowsAndPollsGoOnTheWire: a frame in a row at each end, a row's last frame, a POLL frame, a vacant poll, and a
line that is not active; R133, R135, R136: after the last frame the drop after drop 3 is polled. -/
theorem test_lineShiftCompletion : (lined (sendingRow 82 false)).lineActive 0 = true
    ∧ run (.lineShiftCompletion 0) (lined (sendingRow 82 false))
      (fun t => parts (t.line 0).hold == some (false, 0x42#8, .row true) && (t.line 0).rowPos == 83) = true
    ∧ run (.lineShiftCompletion 0) (lined (sendingRow 83 true))
      (fun t => (t.line 0).tx == .poll && parts (t.line 0).shift == some (true, 0x40#8, .poll) && (t.line 0).queue == []) = true := by
  decide +kernel

/-- Line 0 with a frame left to be shifted out. -/
def leftOver (l : Line) : Line := { l with shift := some (l.cfg.frame false 0x42#8 .orphan) }

/-- Witness for RowsAndPollsGoOnTheWire, a frame left over before a row, before a POLL frame, and on an IDLE line; R132, R133:
the frame held begins, the row goes on with ROWLOAD, the POLL frame completes later, and the oldest row begins. -/
theorem test_left_over :
    run (.lineShiftCompletion 0) (lined (fun l => leftOver (sendingRow 1 false l))) (fun t => (t.line 0).rowPos == 2
        && parts (t.line 0).shift == some (false, 0x42#8, .row false) && parts (t.line 0).hold == some (false, 0x11#8, .row false))
      = true
    ∧ run (.lineShiftCompletion 0) (lined (fun l => leftOver { l with tx := .poll, hold := some (pollFrame l.cfg 1) }))
      (fun t => (t.line 0).tx == .poll && parts (t.line 0).shift == some (true, 0x41#8, .poll) && (t.line 0).hold == none) = true
    ∧ run (.lineShiftCompletion 0) (direct (fun l => leftOver { l with queue := [rowB] }))
      (fun t => (t.line 0).tx == .row && parts (t.line 0).shift == some (false, 0x11#8, .row false) && (t.line 0).rowPos == 2)
      = true := by decide +kernel

theorem witness_line_shift : (lined (sendingRow 83 false)).lineActive 0 = true
    ∧ (direct (sendingRow 82 true)).lineActive 0 = true ∧ ((direct (sendingRow 82 true)).line 0).cfg.mode = .direct
    ∧ (lined (fun l => { l with tx := .poll, shift := some (l.cfg.frame true 0x41#8 .poll) })).lineActive 0 = true
    ∧ { lined (sendingRow 83 true) with part := .passThrough }.lineActive 0 = false := by decide +kernel

/-- R131: on TXD 0x41 has two ones: with the mark bit EVEN parity adds a one, without it ODD parity does; two stop bits and
one. -/
theorem test_txd : LineCfg.bits ⟨true, .shared, .even, true, 1⟩ true 0x41#8
      = [false, true, false, false, false, false, false, true, false, true, true, true, true]
    ∧ LineCfg.bits ⟨true, .direct, .odd, false, 1⟩ false 0x41#8
      = [false, true, false, false, false, false, false, true, false, true, true] := by decide

/-- R136: at a vacant poll's end both drops are DOWN; the rest count of one reaches 7 in this poll, of the other before it. -/
theorem test_vacantPollEnd :
    run (.vacantPollEnd 0) (lined (fun l => { l with
        tx := .vacant, pollPtr := some 0, drops := (l.drops.set0 0 (some ⟨.down, 3, 6⟩)).set0 1 (some ⟨.down, 3, 7⟩) }))
      (fun t => (t.line 0).tx == .poll && parts (t.line 0).shift == some (true, 0x41#8, .poll)
        && (t.line 0).drops.at0 none 0 == some ⟨.down, 3, 7⟩ && (t.line 0).drops.at0 none 1 == some ⟨.down, 3, 0⟩) = true := by
  decide +kernel

/-- Line 0 with drop 1 polled, its record `r`, its transmitter and receiver as given. -/
def polling (r : Drop) (tx : TxState) (rx : RxState) (frames keys : Nat) : State :=
  lined (fun l => { l with
    tx := tx, rx := rx, pollPtr := some 1, drops := l.drops.set0 1 (some r), answerFrames := frames, answerKeys := keys })

/-- Frames with and without the mark bit, and one of zeros. -/
def endFrame : RxFrame := ⟨0x41#8, true, false, true, true⟩

def keyFrame : RxFrame := ⟨0x41#8, false, false, true, true⟩

def zeroFrame : RxFrame := ⟨0#8, false, false, false, false⟩

/-- Witness for PollsEnd: each way in which a poll ends. -/
theorem witness_polls : (polling ⟨.up, 2, 0⟩ .wait .looking 0 0).lineActive 0 = true
    ∧ ((polling ⟨.up, 2, 0⟩ .wait .looking 0 0).line 0).hold = none ∧ ((polling ⟨.up, 2, 0⟩ .wait .looking 0 0).line 0).shift = none
    ∧ ((polling ⟨.up, 2, 0⟩ .wait .looking 0 0).line 0).drops.at0 none 1 = some ⟨.up, 2, 0⟩
    ∧ (polling ⟨.down, 3, 7⟩ .answer (.frame true) 0 16).lineActive 0 = true
    ∧ frameError ((polling ⟨.down, 3, 7⟩ .answer (.frame true) 0 16).line 0).cfg endFrame = none
    ∧ frameError ((polling ⟨.down, 3, 7⟩ .answer (.frame true) 0 16).line 0).cfg keyFrame = none
    ∧ onesOf ((polling ⟨.down, 3, 7⟩ .answer (.frame true) 0 16).line 0).cfg keyFrame ≠ 0
    ∧ (polling ⟨.up, 0, 0⟩ .answer (.spacing true) 1 1).lineActive 0 = true := by decide +kernel

/-- R136, R138: the third miss takes drop 1 DOWN, with a notice that names line 0 and terminal 2; the poll of drop 0 that
follows is its first rest. -/
theorem test_answerWindowExpiry : run (.answerWindowExpiry 0) (polling ⟨.up, 2, 0⟩ .wait .looking 0 0)
    (fun t => (t.line 0).drops.at0 none 1 == some ⟨.down, 3, 1⟩ && (t.line 0).tx == .poll
      && t.notices.unwritten.map (fun q => (q.cause, q.terminal, q.unit)) == [(.down, some 2, some 0)]) = true := by
  decide +kernel

/-- R137: a gap ends the poll as answered, with ERROR and cause ANSWER. -/
theorem test_answerGapExpiry : run (.answerGapExpiry 0) (polling ⟨.up, 2, 0⟩ .answer .looking 1 1)
    (fun t => (t.line 0).error && (t.line 0).drops.at0 none 1 == some ⟨.up, 0, 0⟩
      && t.notices.unwritten.map (fun q => (q.kind, q.cause)) == [(.line, .answer)]) = true := by decide +kernel

/-- R137, R138: an END frame brings a DOWN drop UP and repaints its terminal; the 17th key is discarded. -/
theorem test_receiveFrame_ends :
    run (.receiveFrame 0 endFrame) (polling ⟨.down, 3, 7⟩ .answer (.frame true) 0 16)
      (fun t => (t.line 0).drops.at0 none 1 == some ⟨.up, 0, 7⟩ && (t.term 2).dirtyCount == 24
        && (t.term 1).dirtyCount == 0) = true
    ∧ run (.receiveFrame 0 keyFrame) (polling ⟨.up, 0, 0⟩ .answer (.frame true) 16 16)
      (fun t => (t.line 0).buffer == none && (t.line 0).error && (t.line 0).tx == .poll) = true := by decide +kernel

/-- R137, R140: a break after a completed frame ends the poll as answered, and the line resynchronises. -/
theorem test_breakDetect : run (.breakDetect 0) (polling ⟨.up, 2, 0⟩ .answer (.spacing true) 1 1)
      (fun t => (t.line 0).brk && (t.line 0).rx == .resync && (t.line 0).drops.at0 none 1 == some ⟨.up, 0, 0⟩) = true
    ∧ run (.breakDetect 0) (direct (fun l => { l with rx := .spacing false }))
      (fun t => (t.line 0).buffer == some ⟨1, .brk, 0#8⟩) = true := by decide +kernel

/-- Witness for FramesAreReceived: a line that is not active, one that looks for a start bit in the answer window, a frame of
an answer, a frame on a DIRECT line, one that waits as all spacing, and one that resynchronises. -/
theorem witness_frames : plant.lineActive 0 = false
    ∧ (polling ⟨.up, 0, 0⟩ .wait .looking 0 0).lineActive 0 = true
    ∧ ((polling ⟨.up, 0, 0⟩ .answer (.frame true) 15 15).line 0).rx = .frame true
    ∧ (polling ⟨.up, 0, 0⟩ .answer (.frame true) 15 15).terminalOn 0 1 = some 2
    ∧ (direct (fun l => { l with rx := .frame false })).lineActive 0 = true
    ∧ (direct (fun l => { l with rx := .frame false })).terminalOn 0 0 = some 1
    ∧ onesOf (room.line 0).cfg zeroFrame = 0 ∧ zeroFrame.stop1 = false
    ∧ (lined (fun l => { l with rx := .spacing false })).lineActive 0 = true
    ∧ ((lined (fun l => { l with rx := .resync })).line 0).rx = .resync := by decide +kernel

/-- R137, R140: a start bit in the answer window begins the answer. -/
theorem test_startBitDetect : run (.startBitDetect 0) (polling ⟨.up, 0, 0⟩ .wait .looking 0 0)
    (fun t => (t.line 0).tx == .answer && (t.line 0).rx == .frame true) = true := by decide +kernel

/-- R140 to R142: the 16th key of an answer is delivered; a key on a full buffer is lost; zeros wait; a frame with a spacing
stop bit is FRAMING. -/
theorem test_receiveFrame :
    run (.receiveFrame 0 keyFrame) (polling ⟨.up, 0, 0⟩ .answer (.frame true) 15 15)
      (fun t => (t.line 0).buffer == some ⟨2, .key, 0x41#8⟩ && (t.line 0).answerKeys == 16) = true
    ∧ run (.receiveFrame 0 keyFrame) (direct (fun l => { l with rx := .frame false, buffer := some ⟨1, .key, 1#8⟩ }))
      (fun t => (t.line 0).buffer == some ⟨1, .key, 1#8⟩ && (t.line 0).overrun) = true
    ∧ run (.receiveFrame 0 zeroFrame) (direct (fun l => { l with rx := .frame false })) (fun t => (t.line 0).rx == .spacing false)
      = true
    ∧ run (.receiveFrame 0 { keyFrame with stop1 := false }) (direct (fun l => { l with rx := .frame false }))
      (fun t => t.notices.unwritten.map (fun q => (q.cause, q.terminal)) == [(.framing, some 1)]) = true := by decide +kernel

/-- R140: an all-spacing frame that ends is a framing error. -/
theorem test_spacingFrame : run (.spacingFrameReturnToMarking 0) (lined (fun l => { l with rx := .spacing false }))
    (fun t => (t.line 0).error && (t.line 0).rx == .looking
      && t.notices.unwritten.map (fun q => (q.kind, q.cause)) == [(.line, .framing)]) = true := by decide +kernel

/-- R140: the receiver looks again after a frame time of marking. -/
theorem test_resyncEnd : run (.resyncEnd 0) (lined (fun l => { l with rx := .resync })) (fun t => (t.line 0).rx == .looking)
    = true := by decide +kernel

/-! ## Key rings -/

/-- Terminal 1's ring is `g`, and a key waits in line 0's receive buffer. -/
def keyed (g : Ring) : State :=
  { lined (fun l => { l with buffer := some ⟨1, .key, 0x41#8⟩ }) with
    terms := room.terms.set1 1 { desk .reporter 0 with ring := some g } }

/-- The same with story 7 SET and its block over the ring's header. -/
def keyedOver (g : Ring) : State :=
  { keyed g with stories := room.stories.set1 7 { filed 7 with state := .set, basket := 0, base := 0x380000 } }

/-- Witness for KeysAreWrittenToTheRing: the last entry, a full ring with its mark clear and set, a closed story, and a header
write alone. -/
theorem witness_keys : (keyed ⟨31, 1, false, false⟩).grant = some (.keyRecord 0)
    ∧ (keyed ⟨31, 0, false, false⟩).grant = some (.keyRecord 0) ∧ (keyed ⟨31, 0, true, false⟩).grant = some (.keyRecord 0)
    ∧ (keyedOver ⟨0, 0, false, false⟩).grant = some (.keyRecord 0)
    ∧ (keyedOver ⟨0, 0, false, false⟩).storiesTouched 0x380000 4 = [7]
    ∧ { keyed ⟨3, 2, true, true⟩ with lines := room.lines }.grant = some (.keyHeader 0 1) := by decide +kernel

/-- R144, R145, R177: record in entry 31, producer 0; a full ring takes its mark and a FULL notice; a SET story GUARDED. -/
theorem test_keyRingWrite :
    run .keyRingWrite (keyed ⟨31, 1, false, false⟩) (fun t => t.mem.readBytes 0x380042 2 == [1#8, 0x41#8]
      && t.mem.readBytes 0x380000 4 == [0#8, 0#8, 1#8, 0#8] && (t.line 0).buffer == none) = true
    ∧ run .keyRingWrite (keyed ⟨31, 0, false, false⟩) (fun t => t.mem.readBytes 0x380000 2 == [31#8, 1#8]
      && t.notices.unwritten.map (fun q => (q.kind, q.cause, q.terminal)) == [(.keyloss, .full, some 1)]) = true
    ∧ run .keyRingWrite (keyedOver ⟨0, 0, false, false⟩) (fun t => t.mem == []
      && t.notices.unwritten.map (fun q => (q.cause, q.story)) == [(.guarded, 7)]) = true := by decide +kernel

/-- R144, R146: the header's three fields, and the write is no longer asked for. -/
theorem test_keyRingHeaderWrite : run .keyRingHeaderWrite { keyed ⟨3, 2, true, true⟩ with lines := room.lines }
    (fun t => t.mem.readBytes 0x380000 4 == [3#8, 1#8, 2#8, 0#8] && (t.term 1).ring == some ⟨3, 2, true, false⟩) = true := by
  decide +kernel

/-! ## The screen scanner -/

/-- Terminal 1 alone is enabled, on DIRECT line 0, with these dirty rows; the scan position is 2. -/
def dirty (rows : List Nat) : State :=
  { direct id with
    terms := plant.terms.set1 1 { desk .reporter 0 with dirty := rows.foldl (fun t r => t.set0 r true) (Table.fill 24 false) }
    scanner := { room.scanner with pos := 2 } }

/-- Witness for TheScannerVisits: no terminal at all; and terminal 1, the last after scan position 2, with row 22 or row 23
dirty. -/
theorem witness_visits : (∀ i, i < 64 → ¬Visitable plant ((plant.scanner.pos - 1 + i) % 64 + 1))
    ∧ (∀ j, j < 63 → ¬Visitable (dirty [22]) (((dirty [22]).scanner.pos - 1 + j) % 64 + 1))
    ∧ Visitable (dirty [22]) (((dirty [22]).scanner.pos - 1 + 63) % 64 + 1)
    ∧ Visitable (dirty [23]) (((dirty [23]).scanner.pos - 1 + 63) % 64 + 1) ∧ (dirty [22]).scanner.visit = none := by
  have off : ∀ i, i < 64 → (plant.term ((plant.scanner.pos - 1 + i) % 64 + 1)).cfg.enabled = false := by decide +kernel
  have rest : ∀ j, j < 63 → ((dirty [22]).term (((dirty [22]).scanner.pos - 1 + j) % 64 + 1)).cfg.enabled = false := by
    decide +kernel
  refine ⟨fun i hi h => ?_, fun j hj h => ?_, ?_, ?_, rfl⟩
  · exact Bool.noConfusion ((off i hi).symm.trans h.1)
  · exact Bool.noConfusion ((rest j hj).symm.trans h.1)
  · exact ⟨by decide +kernel, rfl, by decide +kernel, by decide +kernel, fun e => absurd e (by decide +kernel),
      ⟨22, by decide +kernel⟩, by decide +kernel⟩
  · exact ⟨by decide +kernel, rfl, by decide +kernel, by decide +kernel, fun e => absurd e (by decide +kernel),
      ⟨23, by decide +kernel⟩, by decide +kernel⟩

/-- R154 to R156: row 22's read is asked for at 0x300000 + 80 × 22; a dirty status row is taken at once, and sent at once on
an IDLE line; on a line that is sending it waits. -/
theorem test_scanVisit : run .scanVisit (dirty [22]) (fun t => t.scanner.take == some ⟨1, 22, 0x3006E0, false⟩) = true
    ∧ run .scanVisit (dirty [23]) (fun t => (t.line 0).queue.map (fun q => (q.terminal, q.row)) == [(1, 23)]
        && parts (t.line 0).shift == some (false, 0x11#8, .row false) && t.scanner.pos == 2 && (t.term 1).dirtyCount == 0) = true
    ∧ run .scanVisit { dirty [23] with lines := (direct (sendingRow 40 false)).lines } (fun t => (t.line 0).rowPos == 40
        && (t.line 0).queue.map (fun q => (q.terminal, q.row)) == [(2, 5), (1, 23)]) = true := by decide +kernel

/-- A row read of row `r` of terminal 1 in a visit, with bytes in memory. -/
def taking (r : Nat) (rows : List Nat) (stale : Bool) : State :=
  { dirty rows with
    scanner := ⟨2, 2, 2, 1, some ⟨1, 2, 0⟩, some ⟨1, r, 0x300000 + 80 * r, stale⟩⟩
    mem := Memory.writeBytes [] (0x300000 + 80 * r) [0x41#8, 0x42#8] }

/-- Witness for RowReadsAreTakes: a take that ends the visit, one that leads to the status row, and one that is stale. -/
theorem witness_takes : (taking 22 [22] false).grant = some .rowRead ∧ (taking 0 [0, 5, 23] false).grant = some .rowRead
    ∧ (taking 22 [22] true).grant = some .rowRead := by decide +kernel

/-- R154 to R156: the take's record; the status row is the visit's second and last take; a stale take is abandoned. -/
theorem test_rowTake : run .rowTake (taking 22 [22] false) (fun t => t.scanner.visit == none
        && (t.line 0).queue == [⟨1, 22, [0x41#8, 0x42#8] ++ List.replicate 78 0#8⟩]) = true
    ∧ run .rowTake (taking 0 [0, 5, 23] false) (fun t => (t.line 0).queue.map (fun q => q.row) == [0, 23]
        && (t.term 1).dirtyCount == 1 && t.scanner.visit == none) = true
    ∧ run .rowTake (taking 22 [22] true) (fun t => (t.line 0).queue == [] && (t.term 1).dirtyCount == 1) = true := by
  decide +kernel

/-- Witness for TheStatusRowShowsItsInputs, terminal 1 with no story held and with story 7. -/
theorem witness_statusRow : (∀ n, 1 ≤ n → n ≤ 511 → (room.story n).holder ≠ 1)
    ∧ (held7.story 7).holder = 1 ∧ (∀ m, 1 ≤ m → m < 7 → (held7.story m).holder ≠ 1) := by
  refine ⟨fun n _ _ => ?_, by decide +kernel, ?_⟩
  · show (State.reset.stories.at1 Story.freed n).holder ≠ 1
    rw [reset_story]
    decide
  · have : ∀ m, m < 7 → (held7.story m).holder ≠ 1 := by decide +kernel
    exact fun m _ => this m

/-- R151: an advance changes the time, an input of every status row, and row 23 becomes dirty, unless its text is the one taken
last. -/
theorem test_status_row : run .advance room (fun t => (t.term 1).dirty.at0 false 23 && (t.term 1).dirtyCount == 1) = true
    ∧ run .advance { room with terms := room.terms.set1 1 { desk .reporter 0 with lastTaken := some (room.statusRow 1) } }
      (fun t => (t.term 1).dirtyCount == 0 && (t.term 2).dirtyCount == 1) = true := by decide +kernel

/-! ## A RELOAD and the lines -/

/-- The outcome write of a RELOAD without a move that gives line 0 `l` and the terminals `ts`. -/
def reloadTo (s : State) (l : LineCfg) (ts : Table 64 TermCfg) : State :=
  { s with engine := ⟨0, 1, some (.answered .done 0 (.configured
      { newConfig with lines := (Table.fill 16 LineCfg.off).set0 0 l, terms := ts } none)), false⟩ }

/-- The terminal map of the room. -/
def roomMap : Table 64 TermCfg :=
  (((Table.fill 64 TermCfg.off).set1 1 (desk .reporter 0).cfg).set1 2 (desk .editor 1).cfg).set1 3 (desk .slot 2).cfg

/-- Row 5 of terminal 2 is being sent. -/
def midRow : State := lined (sendingRow 40 false)

/-- Witness for LinesFollowTheReload: a line that goes on, one that stops and starts, one that stops, one that loses the row
being sent, and a row read that becomes stale; R132, R134, R155. -/
theorem test_lines_at_reload : (reloadTo midRow (room.line 0).cfg roomMap).grant = some .outcomeWrite
    ∧ run .outcomeWrite (reloadTo midRow (room.line 0).cfg roomMap) (fun t => t.line 0 == midRow.line 0) = true
    ∧ run .outcomeWrite (reloadTo midRow { (room.line 0).cfg with divisor := 16 } roomMap) (fun t =>
        parts (t.line 0).shift == some (false, 0x42#8, .orphan) && parts (t.line 0).hold == some (true, 0x40#8, .poll)
        && (t.line 0).queue == [] && (t.term 2).dirtyCount == 24 && (t.line 0).drops.at0 none 2 == some Drop.fresh) = true
    ∧ run .outcomeWrite (reloadTo midRow { (room.line 0).cfg with enabled := false } roomMap) (fun t =>
        (t.line 0).queue == [] && (t.line 0).hold == none && (t.line 0).tx == .idle && (t.term 2).dirtyCount == 1
        && (t.term 2).dirty.at0 false 5) = true
    ∧ run .outcomeWrite (reloadTo midRow (room.line 0).cfg (roomMap.set1 2 TermCfg.off)) (fun t =>
        (t.line 0).queue == [] && parts (t.line 0).hold == some (true, 0x40#8, .poll) && (t.line 0).drops.at0 none 1 == none
        && (t.term 3).dirtyCount == 0) = true
    ∧ run .outcomeWrite (reloadTo (taking 0 [0, 5] false) LineCfg.off roomMap)
      (fun t => t.scanner.take.map (fun k => k.stale) == some true) = true := by decide +kernel

/-- R132, R139: a poll whose drop leaves is given up, in POLL too (log entry 29), and the next drop polled; a line that starts polls drop 0 first and
repaints; a terminal that joins is repainted and its drop UP. -/
theorem test_polls_at_reload :
    run .outcomeWrite (reloadTo (polling ⟨.up, 2, 0⟩ .wait .looking 0 0) (room.line 0).cfg (roomMap.set1 2 TermCfg.off)) (fun t =>
        (t.line 0).tx == .poll && parts (t.line 0).shift == some (true, 0x40#8, .poll)) = true
    ∧ run .outcomeWrite (reloadTo (lined (fun l => { l with
        tx := .poll, pollPtr := some 1, shift := some (pollFrame l.cfg 1) })) (room.line 0).cfg (roomMap.set1 2 TermCfg.off))
      (fun t => (t.line 0).tx == .poll && parts (t.line 0).shift == some (true, 0x41#8, .orphan)
        && parts (t.line 0).hold == some (true, 0x40#8, .poll)) = true
    ∧ run .outcomeWrite (reloadTo plant (room.line 0).cfg roomMap) (fun t =>
        (t.line 0).tx == .poll && parts (t.line 0).shift == some (true, 0x40#8, .poll) && (t.term 1).dirtyCount == 24) = true
    ∧ run .outcomeWrite (reloadTo room (room.line 0).cfg (roomMap.set1 4 (desk .slot 3).cfg)) (fun t =>
        (t.term 4).dirtyCount == 24 && (t.line 0).drops.at0 none 3 == some Drop.fresh && (t.line 0).tx == .poll) = true := by
  decide +kernel

/-! ## Worked cases of the manual -/

/-- Section 2.6: story 214 with a width sum and a paragraph count. -/
def story214 (u p a : Nat) : Story :=
  { filed 214 with size := 18, measure := 132, leading := 20, hole := a, u := u, p := p, state := .held, holder := 1 }.recomputed

/-- Section 2.6: L, D and the fit at the start, after the third drain, after the sentence, and after ALLOT 1,500. -/
theorem test_worked_copyfit : (fun r : Story => (r.l, r.d, r.fit)) (story214 16200 6 1350) = (67, 1340, .fits)
    ∧ (fun r : Story => (r.l, r.d, r.fit)) (story214 16215 8 1350) = (69, 1380, .over)
    ∧ (story214 16899 8 1350).lineDifference = some 4 ∧ (story214 16899 8 1500).lineDifference = some (-3) := by decide

/-- R157: "E3 L 010" 599 seconds before the close, and "NO EDITION". R158: "S214 OVER  +01L". -/
theorem test_worked_status_row :
    ({ plant with clock := { plant.clock with
        time := 48001, editions := plant.clock.editions.set1 3 ⟨true, 47000, 48600, .lockout, 0, 0, false, false⟩ } } :
      State).editionField = codes [0x45, 0x33, 0x20, 0x4C, 0x20, 0x30, 0x31, 0x30] ++ spaces 12
    ∧ plant.editionField = codes [0x4E, 0x4F, 0x20, 0x45, 0x44, 0x49, 0x54, 0x49, 0x4F, 0x4E] ++ spaces 10
    ∧ (withStory plant 214 (story214 16215 8 1350)).storyField 214
      = codes [0x53, 0x32, 0x31, 0x34, 0x20, 0x4F, 0x56, 0x45, 0x52, 0x20, 0x20, 0x2B, 0x30, 0x31, 0x4C] ++ spaces 13 := by
  decide +kernel

/-! ## Invariants -/

/-- A step whose command answers a next state. -/
theorem step_next {c : Instr} {rest : List Instr} {s : State} (e : s.pending = c :: rest)
    (h : run c { s with pending := rest } (fun _ => true) = true) : ∃ t, step s = .next t := by
  unfold run at h
  unfold step
  rw [e]
  split at h
  · next t ht => exact ⟨t, ht⟩
  · cases h

/-- Witness for EveryStepKeepsMemoryAttnAndRanges: a drain with the queue full. -/
theorem witness_step_ranges : ∃ s t, step s = .next t ∧ MemoryRight s ∧ AttnRight s ∧ RangesRight s := by
  let s := (queued (List.replicate 8 (entry 0x500000 [1#8] .plain))).push .drain
  obtain ⟨t, ht⟩ := step_next (s := s) (c := .drain) (rest := []) rfl (by decide +kernel)
  refine ⟨s, t, ht, ?_, ?_, ?_⟩
  · unfold MemoryRight
    decide +kernel
  · unfold AttnRight
    decide +kernel
  · unfold RangesRight
    decide +kernel

theorem placements_push {s : State} (h : PlacementsRight s) (c : Instr) : PlacementsRight (s.push c) := h

/-- Witness for EveryStepKeepsPlacementsRight: a KILL of a placed story. -/
theorem witness_step_placements : ∃ s t, PlacementsRight s ∧ step s = .next t := by
  obtain ⟨t, ht⟩ := step_next (s := (ask placed7 5 3 [7, 0]).push .kill) (c := .kill) (rest := []) rfl (by decide +kernel)
  exact ⟨_, t, placements_push (placed7_placements 5 3 [7, 0]) .kill, ht⟩

/-- Witness for PassThroughIsLeftOnlyByReset: the validation that enters PASS-THROUGH, and a reset in PASS-THROUGH. -/
theorem witness_step_pass : (∃ s t, PassRight s ∧ step s = .next t ∧ s.pending = [.reloadPieceRead])
    ∧ ∃ s t, PassRight s ∧ step s = .next t ∧ s.part = .passThrough := by
  constructor
  · obtain ⟨t, ht⟩ := step_next (s := (reading 1264 [1#8]).push .reloadPieceRead) (c := .reloadPieceRead) (rest := []) rfl
      (by decide +kernel)
    exact ⟨_, t, fun h => absurd h (by decide +kernel), ht, rfl⟩
  · obtain ⟨t, ht⟩ := step_next (s := ({ plant with part := .passThrough } : State).push .busrst) (c := .busrst) (rest := []) rfl
      (by decide +kernel)
    refine ⟨_, t, fun _ => ⟨by decide, fun f a ws c => ?_⟩, ht, rfl⟩
    show none ≠ some _
    simp

end Sys2Proof.Tests
end

/-! # Stories, baskets and the pages that hold them: the requests of chapters 1 and 4, and the two resets

Each request is settled in three layers: what its effect makes of each record (`story_…`, `basket_…`, `page_…`), the checks
that lead to that effect (`do…_settled`), and the step that answers it (`Asked.settled`). -/

/-! ## Numbers, ranks and records that several requests read -/

namespace Sys2Proof.Machine

theorem validStory_eq_false {n : Nat} : validStory n = false ↔ n = 0 ∨ 511 < n := by
  simp only [validStory, decide_eq_false_iff_not]
  omega

theorem validPage_eq_false {p : Nat} : validPage p = false ↔ 95 < p := by
  simp only [validPage, decide_eq_false_iff_not]
  omega

theorem validBasket_eq_false {b : Nat} : validBasket b = false ↔ b = 0 ∨ 23 < b := by
  simp only [validBasket, decide_eq_false_iff_not]
  omega

/-- Section 1.5: a requester is the system, or a terminal of one of the three ranks. -/
theorem State.isSlotOrSystem_eq_false {s : State} {q : Nat} :
    s.isSlotOrSystem q = false ↔ s.isReporter q = true ∨ s.isEditor q = true := by
  simp only [State.isSlotOrSystem, State.isReporter, State.isEditor]
  cases (s.term q).cfg.rank <;> simp

theorem State.isEditor_of_not_slot {s : State} {q : Nat} (hr : ¬s.isReporter q = true) :
    s.isSlotOrSystem q = false ↔ s.isEditor q = true := by
  rw [State.isSlotOrSystem_eq_false, or_iff_right hr]

theorem State.story_out (s : State) {n : Nat} (h : ¬(1 ≤ n ∧ n ≤ 511)) : s.story n = Story.freed := by
  unfold State.story
  rcases Nat.eq_zero_or_pos n with rfl | hn
  · exact Table.at1_zero ..
  · exact Table.at1_gt _ _ (by omega)

theorem State.basket_out (s : State) {b : Nat} (h : ¬(1 ≤ b ∧ b ≤ 23)) : s.basket b = [] := by
  unfold State.basket
  rcases Nat.eq_zero_or_pos b with rfl | hb
  · exact Table.at1_zero ..
  · exact Table.at1_gt _ _ (by omega)

/-! ## Records that a setter of another table leaves alone -/

@[simp] theorem State.story_charge (s : State) (o : MemOp) (n : Nat) : (s.charge o).story n = s.story n :=
  State.story_of_stories (s.charge_stories o) n

@[simp] theorem State.basket_charge (s : State) (o : MemOp) (b : Nat) : (s.charge o).basket b = s.basket b :=
  State.basket_of_baskets (s.charge_baskets o) b

@[simp] theorem State.page_charge (s : State) (o : MemOp) (p : Nat) : (s.charge o).page p = s.page p :=
  State.page_of_pages (s.charge_pages o) p

@[simp] theorem State.basket_setStory (s : State) (n b : Nat) (r : Story) : (s.setStory n r).basket b = s.basket b :=
  State.basket_of_baskets (s.setStory_baskets n r) b

@[simp] theorem State.page_setStory (s : State) (n p : Nat) (r : Story) : (s.setStory n r).page p = s.page p :=
  State.page_of_pages (s.setStory_pages n r) p

@[simp] theorem State.story_setBasket (s : State) (b n : Nat) (l : List Nat) :
    (s.setBasket b l).story n = s.story n :=
  State.story_of_stories (s.setBasket_stories b l) n

@[simp] theorem State.story_setPage (s : State) (p n : Nat) (g : Page) : (s.setPage p g).story n = s.story n :=
  State.story_of_stories (s.setPage_stories p g) n

@[simp] theorem State.basket_setPage (s : State) (p b : Nat) (g : Page) : (s.setPage p g).basket b = s.basket b :=
  State.basket_of_baskets (s.setPage_baskets p g) b

@[simp] theorem State.story_setSendQueue (s : State) (n : Nat) (q : List Nat) :
    (s.setSendQueue q).story n = s.story n :=
  State.story_of_stories (s.setSendQueue_stories q) n

@[simp] theorem State.basket_setSendQueue (s : State) (b : Nat) (q : List Nat) :
    (s.setSendQueue q).basket b = s.basket b :=
  State.basket_of_baskets (s.setSendQueue_baskets q) b

@[simp] theorem State.page_setSendQueue (s : State) (p : Nat) (q : List Nat) :
    (s.setSendQueue q).page p = s.page p :=
  State.page_of_pages (s.setSendQueue_pages q) p

@[simp] theorem State.sendQueue_setSendQueue (s : State) (q : List Nat) : (s.setSendQueue q).sendQueue = q := by
  unfold State.setSendQueue
  split
  · next h => exact h.symm
  · exact State.mark_sendQueue ..

theorem State.story_setStory_self (s : State) {n : Nat} (r : Story) (hn : 1 ≤ n ∧ n ≤ 511) :
    (s.setStory n r).story n = r := by rw [State.story_setStory, if_pos ⟨rfl, hn⟩]

theorem State.story_setStory_ne (s : State) {n m : Nat} (r : Story) (h : m ≠ n) :
    (s.setStory n r).story m = s.story m := by rw [State.story_setStory, if_neg (fun c => h c.1.symm)]

theorem State.page_setPage_self (s : State) {p : Nat} (g : Page) (hp : p ≤ 95) : (s.setPage p g).page p = g := by
  rw [State.page_setPage, if_pos ⟨rfl, by omega⟩]

theorem State.page_setPage_ne (s : State) {p k : Nat} (g : Page) (h : k ≠ p) : (s.setPage p g).page k = s.page k := by
  rw [State.page_setPage, if_neg (fun c => h c.1.symm)]

/-! ## Marks of changed records (R6, R22, R170) -/

theorem State.mem_marks_mark (s : State) (i : MarkItem) : i ∈ (s.mark i).marks := by
  unfold State.mark
  split
  · assumption
  · simp

theorem State.mem_marks_setStory {s : State} {n : Nat} {r : Story} (h : r ≠ s.story n) :
    .story n ∈ (s.setStory n r).marks := by
  unfold State.setStory
  rw [if_neg h]
  exact State.mem_marks_mark ..

/-- R6: a list of another length changes the header's count. -/
theorem State.mem_marks_setBasket {s : State} {b : Nat} {l : List Nat} (hb : 1 ≤ b ∧ b ≤ 23)
    (h : l.length ≠ (s.basket b).length) : .basket b ∈ (s.setBasket b l).marks := by
  have hl : (s.withBaskets (s.baskets.set1 b l)).basket b = l := Table.at1_set1_self _ _ _ hb
  have hh : (s.withBaskets (s.baskets.set1 b l)).basketHeader b ≠ s.basketHeader b := by
    intro e
    apply h
    rw [← hl]
    exact congrArg Prod.fst e
  unfold State.setBasket
  dsimp only
  rw [if_neg hh]
  exact (State.markEach_touches ..).2.mem (State.mem_marks_mark ..)

/-! ## Stories that join and leave baskets (R4, R5) -/

/-- R4: the list that `n` joins as the last of its class, where `urgent` tells the stories' classes. -/
def joinedAs (urgent : Nat → Bool) (l : List Nat) (n : Nat) : List Nat := joinedList l (l.countP urgent) (urgent n) n

theorem length_joinedAs (urgent : Nat → Bool) (l : List Nat) (n : Nat) : (joinedAs urgent l n).length = l.length + 1 := by
  unfold joinedAs joinedList
  split
  · simp only [List.length_append, List.length_cons, List.length_take, List.length_drop]
    omega
  · simp

theorem State.story_joinBasket (s : State) (n b m : Nat) :
    (s.joinBasket n b).story m = if n = m ∧ 1 ≤ n ∧ n ≤ 511 then { s.story n with basket := b } else s.story m := by
  unfold State.joinBasket
  rw [State.story_setBasket, State.story_setStory]

theorem State.basket_joinBasket (s : State) (n b c : Nat) :
    (s.joinBasket n b).basket c
      = if b = c ∧ 1 ≤ b ∧ b ≤ 23 then joinedAs (fun m => (s.story m).urgent) (s.basket b) n else s.basket c := by
  unfold State.joinBasket
  rw [State.basket_setBasket, State.basket_setStory]
  rfl

theorem State.mem_marks_joinBasket (s : State) (n : Nat) {b : Nat} (hb : 1 ≤ b ∧ b ≤ 23) :
    .basket b ∈ (s.joinBasket n b).marks := by
  unfold State.joinBasket
  refine State.mem_marks_setBasket hb ?_
  rw [State.basket_setStory]
  have hlength : (joinedAs (fun m => (s.story m).urgent) (s.basket b) n).length = (s.basket b).length + 1 :=
    length_joinedAs ..
  exact fun e => Nat.succ_ne_self _ (hlength.symm.trans e)

/-- Joining a basket leaves every story's class as it was. -/
theorem State.urgent_joinBasket (s : State) (n b m : Nat) :
    ((s.joinBasket n b).story m).urgent = (s.story m).urgent := by
  rw [State.story_joinBasket]
  split
  · next h => rw [← h.1]
  · rfl

theorem State.story_leaveBasket (s : State) (n m : Nat) :
    (s.leaveBasket n).story m = if n = m ∧ 1 ≤ n ∧ n ≤ 511 then { s.story n with basket := 0 } else s.story m := by
  unfold State.leaveBasket
  rw [State.story_setStory, State.story_setBasket]

theorem State.basket_leaveBasket (s : State) (n c : Nat) :
    (s.leaveBasket n).basket c = if (s.story n).basket = c then (s.basket c).erase n else s.basket c := by
  unfold State.leaveBasket
  rw [State.basket_setStory, State.basket_setBasket]
  by_cases hc : (s.story n).basket = c
  · subst hc
    by_cases hb : 1 ≤ (s.story n).basket ∧ (s.story n).basket ≤ 23
    · rw [if_pos ⟨rfl, hb⟩, if_pos rfl]
    · rw [if_neg (fun c => hb c.2), if_pos rfl, State.basket_out s hb, List.erase_nil]
  · rw [if_neg (fun e => hc e.1), if_neg hc]

/-! ## A request that is refused or carried out (R162) -/

/-- The outcomes of a request's checks in order: a refusal is answered on the state as it was, DONE on the state `e` that
the request leads to. -/
def State.settle (s : State) (o : ReqOutcome) (note : Nat) (e : State) : State :=
  if o = .done then e.answer .done note else s.answer o note

theorem State.settle_done (s e : State) (note : Nat) : e.answer .done note = s.settle .done note e := rfl

/-- A check that answers `o` with note `k` when it fails, before the checks that answer `a`. -/
theorem State.settle_check {s e X : State} {c c' : Prop} [Decidable c] [Decidable c'] {o : ReqOutcome} {k : Nat}
    {a : ReqOutcome × Nat} (hc : c ↔ c') (ho : o ≠ .done) (hX : ¬c' → X = s.settle a.1 a.2 e) :
    (if c then s.answer o k else X) = s.settle (if c' then (o, k) else a).1 (if c' then (o, k) else a).2 e := by
  by_cases h : c'
  · simp only [if_pos h, if_pos (hc.mpr h)]
    exact (if_neg ho).symm
  · simp only [if_neg h, if_neg (fun x => h (hc.mp x))]
    exact hX h

/-- A check before others whose note is 0 as well. -/
theorem State.settle_check_zero {s e X : State} {c c' : Prop} [Decidable c] [Decidable c'] {o o' : ReqOutcome}
    (hc : c ↔ c') (ho : o ≠ .done) (hX : ¬c' → X = s.settle o' 0 e) :
    (if c then s.answer o 0 else X) = s.settle (if c' then o else o') 0 e := by
  by_cases h : c'
  · rw [if_pos h, if_pos (hc.mpr h)]
    exact (if_neg ho).symm
  · rw [if_neg h, if_neg (fun x => h (hc.mp x))]
    exact hX h

/-- A request is DONE only past each of its checks. -/
theorem check_passed {c : Prop} [Decidable c] {o o' : ReqOutcome} (h : (if c then o else o') = .done)
    (ho : o ≠ .done := by decide) : ¬c ∧ o' = .done := by
  by_cases hc : c
  · rw [if_pos hc] at h
    exact absurd h ho
  · rw [if_neg hc] at h
    exact ⟨hc, h⟩

/-- The regions by which the step that answers a request differs from the request's own effect. -/
def answerRegions : List Region := [.path, .engine, .terms, .marks]

/-- The end of a step whose request has led to `e` and is answered there. -/
theorem Asked.answered {s e : State} {k note : Nat} {o : ReqOutcome} {owner : Request → State → State} {l : List Region}
    (h : Asked k s) (howner : owner s.request (s.charge .requestRead) = e.answer o note)
    (he : Touches (.marks :: l) (s.charge .requestRead) e) (hk : knownKind k = true := by decide)
    (hl : (l.contains .terms || l.contains .engine || l.contains .path) = false := by decide) :
    ∃ t, finish s (s.dispatch (· == k) owner) = .next t ∧ Answered o note s t
      ∧ Only (.path :: .engine :: l) s t ∧ Touches answerRegions e t := by
  simp only [Bool.or_eq_false_iff] at hl
  obtain ⟨⟨hterms, hengine⟩, hpath⟩ := hl
  have hcharge : Touches (.marks :: .path :: .engine :: l) s (s.charge .requestRead) :=
    ⟨fun r hr => (State.charge_touches s .requestRead).1 r (fun c => hr (by simp_all)), (State.charge_touches ..).2⟩
  have heffect : Touches (.marks :: .path :: .engine :: l) (s.charge .requestRead) e :=
    ⟨fun r hr => he.1 r (fun c => hr (by simp_all)), he.2⟩
  have hanswer : Touches (.marks :: .path :: .engine :: l) e (e.answer o note) :=
    ⟨fun r hr => (State.answer_touches e o note).1 r (fun c => hr (by simp_all)), (State.answer_touches ..).2⟩
  refine ⟨_, by rw [State.dispatch_asked h hk, howner]; rfl, ?_, ?_, ?_⟩
  · refine (Answered.of_answer ?_ ?_).compose s false
    · exact he.engine_eq (by simpa using hengine)
    · exact he.path_eq (by simpa using hpath)
  · exact Only.of_touches ((hcharge.trans heffect).trans hanswer) (by simpa using hterms)
  · exact ((State.answer_touches e o note).weaken).trans ((State.compose_touches s _ false).weaken)

/-- The step of a request whose checks end in `o`: DONE shows its effect `e`, a refusal the state as it was. -/
theorem Asked.settled {s e : State} {k note : Nat} {o : ReqOutcome} {owner : Request → State → State} {l : List Region}
    (h : Asked k s) (howner : owner s.request (s.charge .requestRead) = (s.charge .requestRead).settle o note e)
    (he : Touches (.marks :: l) (s.charge .requestRead) e) (hk : knownKind k = true := by decide)
    (hl : (l.contains .terms || l.contains .engine || l.contains .path) = false := by decide) :
    ∃ t, finish s (s.dispatch (· == k) owner) = .next t ∧ Answered o note s t ∧ Only (.path :: .engine :: l) s t
      ∧ (o = .done → Touches answerRegions e t) ∧ (o ≠ .done → Touches answerRegions s t) := by
  unfold State.settle at howner
  by_cases ho : o = .done
  · subst ho
    obtain ⟨t, ht, ha, honly, hshow⟩ := h.answered howner he hk hl
    exact ⟨t, ht, ha, honly, fun _ => hshow, fun c => absurd rfl c⟩
  · rw [if_neg ho] at howner
    obtain ⟨t, ht, ha, honly, hshow⟩ := h.answered howner (Touches.refl (.marks :: l) _) hk hl
    exact ⟨t, ht, ha, honly, fun c => absurd c ho, fun _ => ((State.charge_touches s .requestRead).weaken).trans hshow⟩

/-- A request that a check refuses changes nothing but the path unit and the engine. -/
theorem Asked.refused {s : State} {k note : Nat} {o : ReqOutcome} {owner : Request → State → State} (h : Asked k s)
    (howner : owner s.request (s.charge .requestRead) = (s.charge .requestRead).answer o note)
    (hk : knownKind k = true := by decide) :
    ∃ t, finish s (s.dispatch (· == k) owner) = .next t ∧ Answered o note s t ∧ Only [.path, .engine] s t := by
  obtain ⟨t, ht, ha, honly, -⟩ := h.answered (l := []) howner (Touches.refl _ _) hk
  exact ⟨t, ht, ha, honly⟩

end Sys2Proof.Machine

/-! ## TAKE, RETURN, FILE and PURGE (R11 to R14, R17) -/

namespace Sys2Proof.Machine

/-- A request that, past its checks, does nothing but change the record of story `n` to `r`. -/
theorem Asked.rewritesStory {s : State} {k n : Nat} {r : Story} {o : ReqOutcome} {owner : Request → State → State}
    (h : Asked k s)
    (howner : owner s.request (s.charge .requestRead)
      = (s.charge .requestRead).settle o 0 ((s.charge .requestRead).setStory n r))
    (hchange : o = .done → (1 ≤ n ∧ n ≤ 511) ∧ r ≠ s.story n) (hk : knownKind k = true := by decide) :
    ∃ t, finish s (s.dispatch (· == k) owner) = .next t ∧ Answered o 0 s t ∧ Only [.path, .engine, .stories] s t
      ∧ (o = .done → t.story n = r ∧ MarkItem.story n ∈ t.marks) ∧ (o ≠ .done → t.stories = s.stories)
      ∧ ∀ m, m ≠ n → t.story m = s.story m := by
  obtain ⟨t, ht, ha, honly, hdone, hrefused⟩ :=
    h.settled (l := [.stories]) howner ((State.setStory_touches ..).weaken) hk
  refine ⟨t, ht, ha, honly, fun ho => ?_, fun ho => (hrefused ho).stories_eq, fun m hm => ?_⟩
  · obtain ⟨hn, hr⟩ := hchange ho
    exact ⟨(State.story_of_stories (hdone ho).stories_eq n).trans (State.story_setStory_self _ _ hn),
      (hdone ho).2.mem (State.mem_marks_setStory hr)⟩
  · by_cases ho : o = .done
    · exact (State.story_of_stories (hdone ho).stories_eq m).trans (State.story_setStory_ne _ _ hm)
    · exact State.story_of_stories (hrefused ho).stories_eq m

/-- R11: the checks of a TAKE and its effect. -/
theorem doTake_settled (r : Request) (s : State) :
    doTake r s = s.settle
      (if r.requester = 0 then .badArg
        else if r.story = 0 ∨ 511 < r.story then .noStory
        else if (s.story r.story).state = .held ∧ (s.story r.story).holder = r.requester then .holding
        else if (s.story r.story).state = .held then .held
        else if (s.story r.story).state ≠ .filed then .badState
        else if s.heldBy r.requester ≠ 0 then .holding
        else if (s.term r.requester).cfg.rank = .reporter ∧ s.restricted (s.story r.story).edition = true then .rank
        else .done) 0
      (s.setStory r.story { s.story r.story with state := .held, holder := r.requester }) := by
  refine State.settle_check_zero Iff.rfl (by decide) fun hq => ?_
  refine State.settle_check_zero validStory_eq_false (by decide) fun _ => ?_
  refine State.settle_check_zero Iff.rfl (by decide) fun _ => ?_
  refine State.settle_check_zero Iff.rfl (by decide) fun _ => ?_
  refine State.settle_check_zero Iff.rfl (by decide) fun _ => ?_
  refine State.settle_check_zero Iff.rfl (by decide) fun _ => ?_
  refine State.settle_check_zero ?_ (by decide) fun _ => State.settle_done ..
  simp [State.isReporter, hq]

/-- Settles O20: the checks of R11 end in one outcome, and DONE writes the record of a story that was not HELD. -/
theorem takeMakesTheRequesterTheHolder : Obligations.TakeMakesTheRequesterTheHolder := by
  intro s h n q r o
  refine h.rewritesStory (doTake_settled s.request _) fun ho => ?_
  obtain ⟨-, ho⟩ := check_passed ho
  obtain ⟨hn, ho⟩ := check_passed ho
  obtain ⟨-, ho⟩ := check_passed ho
  obtain ⟨hheld, -⟩ := check_passed ho
  exact ⟨by omega, fun e => hheld (congrArg Story.state e).symm⟩

/-- R12: the checks of a RETURN and its effect. -/
theorem doReturn_settled (r : Request) (s : State) :
    doReturn r s = s.settle
      (if r.story = 0 ∨ 511 < r.story then .noStory
        else if (s.story r.story).state ≠ .held then .badState
        else if r.requester ≠ (s.story r.story).holder ∧ r.requester ≠ 0 then .rank
        else .done) 0
      (s.setStory r.story { s.story r.story with state := .filed, holder := 0 }) := by
  refine State.settle_check_zero validStory_eq_false (by decide) fun _ => ?_
  refine State.settle_check_zero Iff.rfl (by decide) fun _ => ?_
  exact State.settle_check_zero Iff.rfl (by decide) fun _ => State.settle_done ..

/-- Settles O21: the checks of R12 end in one outcome, and DONE writes the record of a story that was HELD. -/
theorem returnGivesTheStoryBack : Obligations.ReturnGivesTheStoryBack := by
  intro s h n q r o
  refine h.rewritesStory (doReturn_settled s.request _) fun ho => ?_
  obtain ⟨hn, ho⟩ := check_passed ho
  obtain ⟨hheld, -⟩ := check_passed ho
  exact ⟨by omega, fun e => hheld fun hs => StoryState.noConfusion (hs.symm.trans (congrArg Story.state e).symm)⟩

/-! ### FILE -/

/-- R14: a FILE writes the story's record and no other. -/
theorem State.story_fileTo (s : State) {n : Nat} (b : Nat) (u : Bool) (hn : 1 ≤ n ∧ n ≤ 511) (m : Nat) :
    (s.fileTo n b u).story m
      = if n = m then { s.story n with state := .filed, holder := 0, basket := b, urgent := u } else s.story m := by
  unfold State.fileTo
  dsimp only
  by_cases hm : n = m
  · subst hm
    split
    · next h => simp [State.story_setStory, hn, ← h.1, ← h.2]
    · simp [State.story_joinBasket, State.story_setStory, State.story_leaveBasket, hn]
  · split <;> simp [State.story_joinBasket, State.story_setStory, State.story_leaveBasket, hm]

/-- R14: a FILE to the story's own basket and class leaves the baskets as they are. -/
theorem State.baskets_fileTo_same {s : State} {n b : Nat} {u : Bool}
    (h : (s.story n).basket = b ∧ (s.story n).urgent = u) : (s.fileTo n b u).baskets = s.baskets := by
  unfold State.fileTo
  rw [if_pos h, State.setStory_baskets]

/-- R14: any other FILE takes the story out of its basket, and it joins the named one as the last of its new class. -/
theorem State.basket_fileTo_moved {s : State} {n b : Nat} {u : Bool} (hn : 1 ≤ n ∧ n ≤ 511) (hb : 1 ≤ b ∧ b ≤ 23)
    (h : ¬((s.story n).basket = b ∧ (s.story n).urgent = u)) (c : Nat) :
    (s.fileTo n b u).basket c
      = if c = b then joinedAs (fun m => ((s.fileTo n b u).story m).urgent)
          (if (s.story n).basket = b then (s.basket b).erase n else s.basket b) n
        else if c = (s.story n).basket then (s.basket c).erase n else s.basket c := by
  have hmove : ∃ s' : State, s.fileTo n b u = s'.joinBasket n b
      ∧ ∀ c, s'.basket c = if (s.story n).basket = c then (s.basket c).erase n else s.basket c := by
    unfold State.fileTo
    rw [if_neg h]
    refine ⟨_, rfl, fun c => ?_⟩
    rw [State.basket_setStory, State.basket_leaveBasket, State.story_setStory_self _ _ hn, State.basket_setStory]
  obtain ⟨s', hmove, hleft⟩ := hmove
  rw [hmove, State.basket_joinBasket]
  simp only [State.urgent_joinBasket, hleft, hb, and_true, and_self, eq_comm]

/-- R13: the checks of a FILE and its effect. -/
theorem doFile_settled (r : Request) (s : State) :
    doFile r s = s.settle
      (if r.story = 0 ∨ 511 < r.story then .noStory
        else if r.u8 10 = 0 ∨ 23 < r.u8 10 then .badArg
        else if (s.story r.story).state ≠ .filed ∧ (s.story r.story).state ≠ .held then .badState
        else if (s.story r.story).state = .held ∧ (s.story r.story).holder ≠ r.requester ∧ r.requester ≠ 0 then .held
        else .done) 0 (s.fileTo r.story (r.u8 10) (r.u8 11 != 0)) := by
  refine State.settle_check_zero validStory_eq_false (by decide) fun _ => ?_
  refine State.settle_check_zero validBasket_eq_false (by decide) fun _ => ?_
  refine State.settle_check_zero Iff.rfl (by decide) fun _ => ?_
  exact State.settle_check_zero Iff.rfl (by decide) fun _ => State.settle_done ..

/-- Settles O22: the checks of R13 end in one outcome; DONE leaves the story's basket and joins the named one, or keeps its
place. -/
theorem fileMovesTheStory : Obligations.FileMovesTheStory := by
  intro s h n b u q r o
  obtain ⟨t, ht, ha, honly, hdone, hrefused⟩ :=
    h.settled (o := o) (l := [.stories, .baskets]) (doFile_settled s.request _) ((State.fileTo_touches ..).weaken)
  have hnumbers (ho : o = .done) : (1 ≤ n ∧ n ≤ 511) ∧ 1 ≤ b ∧ b ≤ 23 := by
    obtain ⟨hn, hchecks⟩ := check_passed ho
    obtain ⟨hb, -⟩ := check_passed hchecks
    exact ⟨by omega, by omega⟩
  have hstory (ho : o = .done) (m : Nat) : t.story m
      = if n = m then { r with state := .filed, holder := 0, basket := b, urgent := u } else s.story m :=
    (State.story_of_stories (hdone ho).stories_eq m).trans (State.story_fileTo _ _ _ (hnumbers ho).1 m)
  refine ⟨t, ht, ha, honly, fun m hm => ?_, fun ho => ⟨(hrefused ho).stories_eq, (hrefused ho).baskets_eq⟩,
    fun ho => ⟨by rw [hstory ho, if_pos rfl], fun hsame => ?_, fun hmoved => ?_⟩⟩
  · by_cases ho : o = .done
    · rw [hstory ho, if_neg (Ne.symm hm)]
    · exact State.story_of_stories (hrefused ho).stories_eq m
  · exact (hdone ho).baskets_eq.trans (State.baskets_fileTo_same hsame)
  · have hbasket (c : Nat) : t.basket c
        = if c = b then joinedAs (fun m => (t.story m).urgent)
            (if r.basket = b then (s.basket b).erase n else s.basket b) n
          else if c = r.basket then (s.basket c).erase n else s.basket c := by
      have hclass (m : Nat) := State.story_of_stories (hdone ho).stories_eq m
      rw [State.basket_of_baskets (hdone ho).baskets_eq, funext fun m => congrArg Story.urgent (hclass m),
        State.basket_fileTo_moved (s := s.charge .requestRead) (hnumbers ho).1 (hnumbers ho).2 hmoved]
      simp only [State.story_charge, State.basket_charge]
      rfl
    refine ⟨?_, fun hb => ?_, fun c hcb hcr => ?_⟩
    · rw [hbasket, if_pos rfl, joinedAs, joinedList, hstory ho, if_pos rfl]
    · rw [hbasket, if_neg hb, if_pos rfl]
    · rw [hbasket, if_neg hcb, if_neg hcr]

/-! ### PURGE -/

/-- R36: an abandoned recount only makes the story IDLE. -/
theorem State.story_leaveRecount (s : State) (n m : Nat) :
    (s.leaveRecount n).story m = if n = m ∧ 1 ≤ n ∧ n ≤ 511 then { s.story n with recount := .idle } else s.story m := by
  unfold State.leaveRecount
  rw [State.story_setStory]
  rfl

/-- R36: an abandoned recount leaves the recount list without the story. -/
theorem State.copyfit_leaveRecount (s : State) (n : Nat) : (s.leaveRecount n).copyfit
    = { s.copyfit with list := s.copyfit.list.filter (fun e => e.story ≠ n) } := by
  unfold State.leaveRecount
  rw [State.setStory_copyfit]
  rfl

theorem State.story_abandonForPurge (s : State) (n m : Nat) :
    (s.abandonForPurge n).story m
      = if n = m ∧ 1 ≤ n ∧ n ≤ 511 then { s.story n with recount := .idle } else s.story m := by
  unfold State.abandonForPurge
  split
  · next hidle =>
    split
    · next hm => rw [← hm.1, ← hidle]
    · rfl
  · exact State.story_leaveRecount ..

theorem State.copyfit_abandonForPurge (s : State) (n : Nat) : (s.abandonForPurge n).copyfit
    = if (s.story n).recount = .idle then s.copyfit
      else { s.copyfit with list := s.copyfit.list.filter (fun e => e.story ≠ n) } := by
  unfold State.abandonForPurge
  split
  · rfl
  · exact State.copyfit_leaveRecount ..

/-- R17: the checks of a PURGE and its effect. -/
theorem doPurge_settled (r : Request) (s : State) :
    doPurge r s = s.settle
      (if r.story = 0 ∨ 511 < r.story then .noStory
        else if s.isReporter r.requester = true ∨ s.isEditor r.requester = true then .rank
        else if (s.story r.story).state ≠ .killed
          ∧ ¬((s.story r.story).state = .set ∧ (s.story r.story).placement = none) then .badState
        else .done) 0 ((s.abandonForPurge r.story).setStory r.story Story.freed) := by
  refine State.settle_check_zero validStory_eq_false (by decide) fun _ => ?_
  refine State.settle_check_zero State.isSlotOrSystem_eq_false (by decide) fun _ => ?_
  exact State.settle_check_zero Iff.rfl (by decide) fun _ => State.settle_done ..

/-- Settles O24: the checks of R17 end in one outcome, and DONE frees the record of a KILLED or SET story. -/
theorem purgeFreesTheRecord : Obligations.PurgeFreesTheRecord := by
  intro s h n r o
  obtain ⟨t, ht, ha, honly, hdone, hrefused⟩ :=
    h.settled (o := o) (l := [.stories, .copyfit]) (doPurge_settled s.request _)
      (((State.abandonForPurge_touches ..).weaken).trans ((State.setStory_touches ..).weaken))
  refine ⟨t, ht, ha, honly, fun ho => ⟨(hrefused ho).stories_eq, (hrefused ho).copyfit_eq⟩, fun ho => ?_,
    fun m hm => ?_⟩
  · obtain ⟨hn, hchecks⟩ := check_passed ho
    obtain ⟨-, hchecks⟩ := check_passed hchecks
    obtain ⟨hstate, -⟩ := check_passed hchecks
    replace hn : 1 ≤ n ∧ n ≤ 511 := by omega
    have hfree : r.state ≠ .free := fun e => hstate (by simp [e])
    refine ⟨?_, ?_, (hdone ho).2.mem (State.mem_marks_setStory fun e => hfree ?_)⟩
    · exact (State.story_of_stories (hdone ho).stories_eq n).trans (State.story_setStory_self _ _ hn)
    · rw [(hdone ho).copyfit_eq, State.setStory_copyfit]
      exact State.copyfit_abandonForPurge ..
    · rw [State.story_abandonForPurge, if_pos ⟨rfl, hn⟩] at e
      exact (congrArg Story.state e).symm
  · by_cases ho : o = .done
    · rw [State.story_of_stories (hdone ho).stories_eq, State.story_setStory_ne _ _ hm, State.story_abandonForPurge,
        if_neg fun c => hm c.1.symm]
      rfl
    · exact State.story_of_stories (hrefused ho).stories_eq m

end Sys2Proof.Machine

/-! ## REGISTER (R9, R10) -/

namespace Sys2Proof.Machine

/-- R9, check 2. -/
theorem badRegister_iff {base cap edition b : Nat} : badRegister base cap edition b = true ↔
    base % 256 ≠ 0 ∨ addressSpace ≤ base ∨ cap = 0 ∨ 64 < cap ∨ addressSpace < base + 256 * cap ∨ 4 < edition
      ∨ validBasket b = false := by
  simp [badRegister, or_assoc]

/-- R9: a proposed block is taken by a registered story's block or by the control area. -/
theorem State.blockTaken_eq (s : State) (base : Nat) {cap : Nat} (hcap : cap ≠ 0) : s.blockTaken base cap
    = (storyNumbers.any (fun m => (s.story m).state != .free && decide (0 < (s.story m).capacity
        ∧ base < (s.story m).base + 256 * (s.story m).capacity ∧ (s.story m).base < base + 256 * cap))
      || decide (base < s.base + 65536 ∧ s.base < base + 256 * cap)) := by
  have hblock : 0 < 256 * cap := by omega
  unfold State.blockTaken
  rw [State.storiesWhere_eq]
  congr 1
  · rw [Bool.eq_iff_iff]
    simp only [Bool.not_eq_true', List.isEmpty_eq_false_iff, ne_eq, List.filter_eq_nil_iff, List.any_eq_true,
      rangesOverlap, Story.registered, Classical.not_forall, Classical.not_not, exists_prop, Bool.and_eq_true, decide_eq_true_eq]
    refine exists_congr fun m => and_congr_right fun _ => and_congr_right fun _ => ?_
    omega
  · simp [rangesOverlap, controlAreaSize, hblock]

/-- R10: the FILED story, the last of its class in its basket, waiting for its recount. -/
def State.registered (s : State) (n b : Nat) (r : Story) : State :=
  ((s.setStory n r).joinBasket n b).joinRecount n s.drainTag

theorem State.registered_touches (s : State) (n b : Nat) (r : Story) :
    Touches [.stories, .baskets, .copyfit, .marks] s (s.registered n b r) :=
  (((State.setStory_touches ..).weaken).trans ((State.joinBasket_touches ..).weaken)).trans
    ((State.joinRecount_touches ..).weaken)

theorem State.story_joinRecount (s : State) (n : Nat) (tag : Option Nat) (m : Nat) :
    (s.joinRecount n tag).story m
      = if n = m ∧ 1 ≤ n ∧ n ≤ 511 then { s.story n with recount := .waiting, fit := .counting } else s.story m :=
  State.story_setStory ..

theorem State.story_registered (s : State) {n : Nat} (b : Nat) (r : Story) (hn : 1 ≤ n ∧ n ≤ 511) (m : Nat) :
    (s.registered n b r).story m
      = if n = m then { r with basket := b, recount := .waiting, fit := .counting } else s.story m := by
  unfold State.registered
  by_cases hm : n = m
  · subst hm
    simp [State.story_joinRecount, State.story_joinBasket, State.story_setStory, hn]
  · simp [State.story_joinRecount, State.story_joinBasket, State.story_setStory, hm]

theorem State.basket_registered (s : State) {n b : Nat} (r : Story) (hb : 1 ≤ b ∧ b ≤ 23) (c : Nat) :
    (s.registered n b r).basket c
      = if b = c then joinedAs (fun m => ((s.registered n b r).story m).urgent) (s.basket b) n else s.basket c := by
  have hclass (m : Nat) : ((s.registered n b r).story m).urgent = ((s.setStory n r).story m).urgent := by
    unfold State.registered
    rw [State.story_joinRecount, ← State.urgent_joinBasket (s.setStory n r) n b m]
    split
    · next h => rw [h.1]
    · rfl
  have hbasket : (s.registered n b r).basket c = ((s.setStory n r).joinBasket n b).basket c :=
    State.basket_of_baskets (State.joinRecount_touches ..).baskets_eq c
  rw [hbasket, State.basket_joinBasket, funext hclass]
  simp only [hb, and_self, and_true, State.basket_setStory]

theorem State.copyfit_registered (s : State) (n b : Nat) (r : Story) : (s.registered n b r).copyfit
    = { s.copyfit with list := s.copyfit.list ++ [⟨n, s.drainTag⟩] } := by
  have hjoined : ((s.setStory n r).joinBasket n b).copyfit = s.copyfit :=
    ((State.joinBasket_touches ..).copyfit_eq).trans (s.setStory_copyfit n r)
  simp only [State.registered, State.joinRecount, State.withCopyfit_copyfit, State.setStory_copyfit, hjoined]

theorem State.marks_registered (s : State) {n b : Nat} {r : Story} (hb : 1 ≤ b ∧ b ≤ 23) (hr : r ≠ s.story n) :
    MarkItem.story n ∈ (s.registered n b r).marks ∧ MarkItem.basket b ∈ (s.registered n b r).marks :=
  ⟨(State.joinRecount_touches ..).2.mem ((State.joinBasket_touches ..).2.mem (State.mem_marks_setStory hr)),
    (State.joinRecount_touches ..).2.mem (State.mem_marks_joinBasket _ n hb)⟩

/-- R10, R42: a style of four clamped values. -/
theorem Style.clamped_eq (y : Style) : y.clamped
    = ⟨min 3 y.font, max 8 (min 144 y.size), max 36 (min 720 y.measure), max 8 (min 288 y.leading)⟩ := by
  simp only [Style.clamped, clampTo]
  simp

/-- R10: DONE where no style value had to be clamped. -/
theorem Style.outcome_eq (y : Style) : y.outcome
    = if min 3 y.font = y.font ∧ max 8 (min 144 y.size) = y.size ∧ max 36 (min 720 y.measure) = y.measure
        ∧ max 8 (min 288 y.leading) = y.leading then .done else .clamped := by
  unfold Style.outcome
  rw [Style.clamped_eq]
  obtain ⟨font, size, measure, leading⟩ := y
  simp only [Style.mk.injEq]

/-- R9, R10: past its checks a REGISTER answers by its style and leads to the registered story. -/
theorem doRegister_accepted {r : Request} {s : State} (hn : ¬validStory r.story = false)
    (hargs : ¬badRegister (r.u32 12) (r.u8 16) (r.u8 17) (r.u8 18) = true) (hfree : ¬(s.story r.story).state ≠ .free)
    (hplace : ¬s.blockTaken (r.u32 12) (r.u8 16) = true) :
    let y : Style := ⟨r.u8 20, r.u8 21, r.u16 22, r.u16 24⟩
    doRegister r s = (s.registered r.story (r.u8 18)
      (registeredStory (r.u32 12) (r.u8 16) (r.u8 17) (r.u8 19 != 0) y.clamped)).answer y.outcome 0 := by
  unfold doRegister
  dsimp only
  rw [if_neg hn, if_neg hargs, if_neg hfree, if_neg hplace]
  rfl

/-- Settles O19: each check of R9 refuses by itself, and past them all R10's record stands in its basket and on the recount
list. -/
theorem registerFilesAStory : Obligations.RegisterFilesAStory := by
  intro s h n base cap edition b urgent taken font size measure leading
  have hrefuse {o : ReqOutcome}
      (howner : doRegister s.request (s.charge .requestRead) = (s.charge .requestRead).answer o 0) :
      ∃ t, exec .register s = .next t ∧ Answered o 0 s t ∧ Only [.path, .engine] s t := h.refused howner
  by_cases hn : validStory n = false
  · simp only [if_pos hn]
    exact hrefuse (if_pos hn)
  by_cases hargs : badRegister base cap edition b = true
  · simp only [if_neg hn, if_pos (badRegister_iff.mp hargs)]
    exact hrefuse ((if_neg hn).trans (if_pos hargs))
  have hgood := mt badRegister_iff.mpr hargs
  simp only [if_neg hn, if_neg hgood]
  simp only [not_or] at hgood
  obtain ⟨-, -, hcap, -, -, -, hb⟩ := hgood
  by_cases hfree : (s.story n).state ≠ .free
  · simp only [if_pos hfree]
    exact hrefuse ((if_neg hn).trans ((if_neg hargs).trans (if_pos hfree)))
  have hplace : (s.charge .requestRead).blockTaken base cap = taken := State.blockTaken_eq _ base hcap
  by_cases htaken : taken = true
  · simp only [if_neg hfree, if_pos htaken]
    exact hrefuse ((if_neg hn).trans ((if_neg hargs).trans ((if_neg hfree).trans (if_pos (hplace.trans htaken)))))
  simp only [if_neg hfree, if_neg htaken]
  have hn' : 1 ≤ n ∧ n ≤ 511 := by rw [validStory_eq_false] at hn; omega
  have hb' : 1 ≤ b ∧ b ≤ 23 := by rw [validBasket_eq_false] at hb; omega
  obtain ⟨t, ht, ha, honly, hshow⟩ := h.answered (l := [.stories, .baskets, .copyfit])
    (doRegister_accepted hn hargs hfree fun c => htaken (hplace.symm.trans c)) ((State.registered_touches ..).weaken)
  rw [Style.outcome_eq] at ha
  rw [Style.clamped_eq] at hshow
  have hstory (m : Nat) := (State.story_of_stories hshow.stories_eq m).trans (State.story_registered _ _ _ hn' m)
  have hbasket (c : Nat) : t.basket c
      = if b = c then joinedAs (fun m => (t.story m).urgent) (s.basket b) n else s.basket c := by
    rw [State.basket_of_baskets hshow.baskets_eq,
      funext fun m => congrArg Story.urgent (State.story_of_stories hshow.stories_eq m)]
    exact State.basket_registered _ _ hb' c
  have hmarks : MarkItem.story n ∈ t.marks ∧ MarkItem.basket b ∈ t.marks :=
    And.imp hshow.2.mem hshow.2.mem (State.marks_registered _ hb' fun e =>
      hfree fun hs => StoryState.noConfusion ((congrArg Story.state e).trans hs))
  refine ⟨t, ht, ha, ?_, ?_, ?_, fun m hm => ?_, fun c hc => ?_, hmarks.1, hmarks.2, honly⟩
  · exact (hstory n).trans (if_pos rfl)
  · rw [hbasket, if_pos rfl, joinedAs, joinedList, hstory n, if_pos rfl]
    rfl
  · exact hshow.copyfit_eq.trans (State.copyfit_registered ..)
  · exact (hstory m).trans (if_neg (Ne.symm hm))
  · exact (hbasket c).trans (if_neg (Ne.symm hc))

end Sys2Proof.Machine

/-! ## The stories placed on a page (R65) -/

namespace Sys2Proof.Machine

/-- R65: an entry of a page's list is the placement of its story. -/
theorem PlacementsRight.entry {s : State} (h : PlacementsRight s) {p i : Nat} {q : Placed} (hp : p ≤ 95)
    (hq : (s.page p).placements[i]? = some q) :
    (1 ≤ q.story ∧ q.story ≤ 511) ∧ (s.story q.story).placement = some (p, i) := by
  obtain ⟨hvalid, hplace⟩ := h.1 p i hp q hq
  exact ⟨by simpa [validStory] using hvalid, hplace⟩

/-- R65: the placement of a story is an entry of its page's list. -/
theorem PlacementsRight.listed {s : State} (h : PlacementsRight s) {n p i : Nat}
    (hn : (s.story n).placement = some (p, i)) :
    p ≤ 95 ∧ ∃ q : Placed, (s.page p).placements[i]? = some q ∧ q.story = n := by
  obtain ⟨hp, hentry⟩ := h.2.1 n p i hn
  exact ⟨hp, Option.map_eq_some_iff.mp hentry⟩

theorem PlacementsRight.valid_of_placedOn {s : State} (h : PlacementsRight s) {p n : Nat} (hp : p ≤ 95) (hn : n ∈ s.placedOn p) :
    1 ≤ n ∧ n ≤ 511 := by
  obtain ⟨q, hq, rfl⟩ := List.mem_map.mp hn
  obtain ⟨i, hi⟩ := List.mem_iff_getElem?.mp hq
  exact (h.entry hp hi).1

/-- R65: a story stands at one position of a page only. -/
theorem PlacementsRight.placedOn_nodup {s : State} (h : PlacementsRight s) {p : Nat} (hp : p ≤ 95) :
    (s.placedOn p).Nodup := by
  have hposition (i n : Nat) (hi : (s.placedOn p)[i]? = some n) : (s.story n).placement = some (p, i) := by
    simp only [State.placedOn, List.getElem?_map, Option.map_eq_some_iff] at hi
    obtain ⟨q, hq, rfl⟩ := hi
    exact (h.entry hp hq).2
  rw [List.Nodup, List.pairwise_iff_getElem]
  intro i j hi hj hij he
  have hpi := hposition i _ (List.getElem?_eq_getElem hi)
  rw [he, hposition j _ (List.getElem?_eq_getElem hj)] at hpi
  simp only [Option.some.injEq, Prod.mk.injEq, true_and] at hpi
  omega

/-! ## One change made to each story of a list -/

/-- A fold that makes the idempotent change `g` to each story of a list. -/
theorem State.story_foldl {f : State → Nat → State} {g : Story → Story} (hg : ∀ r, g (g r) = g r) {l : List Nat}
    (hf : ∀ n ∈ l, ∀ s m, (f s n).story m = if n = m then g (s.story m) else s.story m) (s : State) (m : Nat) :
    (l.foldl f s).story m = if m ∈ l then g (s.story m) else s.story m := by
  induction l generalizing s with
  | nil => simp
  | cons n l ih =>
    rw [List.foldl_cons, ih (fun k hk => hf k (List.mem_cons_of_mem n hk)), hf n List.mem_cons_self]
    by_cases hm : n = m
    · subst hm
      simp [hg]
    · simp [hm, Ne.symm hm]

/-- A fold whose steps leave a page or another field of the state as it was. -/
theorem State.foldl_keeps {α β : Type} {f : State → α → State} {get : State → β}
    (hf : ∀ s a, get (f s a) = get s) (l : List α) (s : State) : get (l.foldl f s) = get s := by
  induction l generalizing s with
  | nil => rfl
  | cons a l ih => rw [List.foldl_cons, ih, hf]

/-! ## RELEASE (R18, R72, R73) -/

/-- R18. -/
def Story.queued (r : Story) : Story := { r with state := .queued, basket := 0 }

theorem State.story_queueStory {n : Nat} (hn : 1 ≤ n ∧ n ≤ 511) (s : State) (m : Nat) :
    (s.queueStory n).story m = if n = m then (s.story m).queued else s.story m := by
  unfold State.queueStory
  by_cases hm : n = m
  · subst hm
    simp [State.story_setStory, State.story_leaveBasket, hn, Story.queued]
  · simp [State.story_setStory, State.story_leaveBasket, hm]

theorem State.basket_queueStory (s : State) (n b : Nat) :
    (s.queueStory n).basket b = if (s.story n).basket = b then (s.basket b).erase n else s.basket b := by
  unfold State.queueStory
  rw [State.basket_setStory, State.basket_leaveBasket]

/-- R18: each story leaves the basket it was in. -/
theorem State.basket_queueStories {l : List Nat} (hvalid : ∀ n ∈ l, 1 ≤ n ∧ n ≤ 511) (hl : l.Nodup) (s : State)
    (b : Nat) : (l.foldl State.queueStory s).basket b
      = (l.filter (fun n => (s.story n).basket == b)).foldl (fun l n => l.erase n) (s.basket b) := by
  induction l generalizing s with
  | nil => rfl
  | cons n l ih =>
    obtain ⟨hn, hl⟩ := List.nodup_cons.mp hl
    have hrest : l.filter (fun m => ((s.queueStory n).story m).basket == b)
        = l.filter (fun m => (s.story m).basket == b) :=
      List.filter_congr fun m hm => by
        have hne : n ≠ m := fun e => hn (e ▸ hm)
        rw [State.story_queueStory (hvalid n List.mem_cons_self), if_neg hne]
    rw [List.foldl_cons, ih (fun k hk => hvalid k (List.mem_cons_of_mem n hk)) hl, hrest, State.basket_queueStory,
      List.filter_cons]
    by_cases hb : (s.story n).basket = b <;> simp [hb]

theorem State.story_releasePage {s : State} {p : Nat} (hvalid : ∀ n ∈ s.placedOn p, 1 ≤ n ∧ n ≤ 511) (m : Nat) :
    (s.releasePage p).story m = if m ∈ s.placedOn p then (s.story m).queued else s.story m := by
  unfold State.releasePage
  refine (State.story_foldl (g := Story.queued) (fun _ => rfl)
    (fun n hn s m => State.story_queueStory (hvalid n hn) s m) _ m).trans ?_
  rw [State.story_setSendQueue, State.story_setPage]

theorem State.basket_releasePage {s : State} {p : Nat} (hvalid : ∀ n ∈ s.placedOn p, 1 ≤ n ∧ n ≤ 511)
    (hnodup : (s.placedOn p).Nodup) (b : Nat) : (s.releasePage p).basket b
      = ((s.placedOn p).filter (fun n => (s.story n).basket == b)).foldl (fun l n => l.erase n) (s.basket b) := by
  unfold State.releasePage
  refine (State.basket_queueStories hvalid hnodup _ b).trans ?_
  simp only [State.story_setSendQueue, State.story_setPage, State.basket_setSendQueue, State.basket_setPage]

theorem State.page_releasePage (s : State) {p : Nat} (hp : p ≤ 95) (k : Nat) :
    (s.releasePage p).page k = if p = k then { s.page p with state := .queued } else s.page k := by
  have hkeeps (s : State) (n : Nat) : (s.queueStory n).page k = s.page k :=
    State.page_of_pages (State.queueStory_touches s n).pages_eq k
  unfold State.releasePage
  refine (State.foldl_keeps (get := fun s => s.page k) hkeeps _ _).trans ?_
  rw [State.page_setSendQueue, State.page_setPage]
  simp only [show p < 96 by omega, and_true]

theorem State.sendQueue_releasePage (s : State) (p : Nat) : (s.releasePage p).sendQueue = s.sendQueue ++ [p] := by
  have hkeeps (s : State) (n : Nat) : (s.queueStory n).sendQueue = s.sendQueue :=
    (State.queueStory_touches s n).sendQueue_eq
  unfold State.releasePage
  refine (State.foldl_keeps (get := State.sendQueue) hkeeps _ _).trans ?_
  rw [State.sendQueue_setSendQueue, State.setPage_sendQueue]

theorem Page.inMakeup_eq_false {g : Page} : g.inMakeup = false ↔ g.state ≠ .makeup ∧ g.state ≠ .late := by
  simp [Page.inMakeup]

/-- R72: the checks of a RELEASE, with the first failing story in the note, and its effect. -/
theorem doRelease_settled (r : Request) (s : State) :
    let q := r.requester
    let g := s.page r.page
    let placed := s.placedOn r.page
    let o : ReqOutcome × Nat :=
      if 95 < r.page then (.noPage, 0)
      else if s.isReporter q = true then (.rank, 0)
      else if g.state ≠ .makeup ∧ g.state ≠ .late then (.badState, 0)
      else if g.state = .late ∧ s.isEditor q = true then (.rank, 0)
      else if placed = [] then (.badState, 0)
      else match placed.find? (fun n => (s.story n).state == .held) with
        | some n => (.held, n)
        | none => match placed.find? (fun n => (s.story n).fit != .fits) with
          | some n => if r.u8 9 ≠ 0 ∧ s.isEditor q = false then (.done, 0) else (.unfit, n)
          | none => (.done, 0)
    doRelease r s = s.settle o.1 o.2 (s.releasePage r.page) := by
  refine State.settle_check validPage_eq_false (by decide) fun _ => ?_
  refine State.settle_check Iff.rfl (by decide) fun hrank => ?_
  refine State.settle_check Page.inMakeup_eq_false (by decide) fun _ => ?_
  refine State.settle_check Iff.rfl (by decide) fun _ => ?_
  refine State.settle_check List.map_eq_nil_iff.symm (by decide) fun _ => ?_
  cases (s.placedOn r.page).find? (fun n => (s.story n).state == .held) with
  | some n => rfl
  | none =>
    cases (s.placedOn r.page).find? (fun n => (s.story n).fit != .fits) with
    | none => rfl
    | some n =>
      have hover : s.overrideCounts r = false ↔ ¬(r.u8 9 ≠ 0 ∧ s.isEditor r.requester = false) := by
        simp only [State.overrideCounts, Bool.and_eq_false_iff, State.isEditor_of_not_slot hrank]
        cases s.isEditor r.requester <;> simp
      by_cases ho : r.u8 9 ≠ 0 ∧ s.isEditor r.requester = false
      · simp [hover, ho, State.settle]
      · simp [hover, ho, State.settle]

/-- Settles O33: the checks of R72 end in one answer; DONE queues the page, and each placed story leaves its basket. -/
theorem releaseQueuesThePage : Obligations.ReleaseQueuesThePage := by
  intro s hplaced h p q g placed held unfit override o
  obtain ⟨t, ht, ha, honly, hdone, hrefused⟩ :=
    h.settled (o := o.1) (note := o.2) (l := [.stories, .baskets, .pages, .sendQueue]) (doRelease_settled s.request _)
      ((State.releasePage_touches ..).weaken)
  refine ⟨t, ht, ha, honly, fun ho => ?_, fun ho => ?_⟩
  · have hshow := hrefused ho
    exact ⟨hshow.stories_eq, hshow.baskets_eq, hshow.pages_eq, hshow.sendQueue_eq⟩
  · have hp : p ≤ 95 := by
      refine Nat.le_of_not_lt fun hp => ?_
      simp [o, hp] at ho
    have hvalid (n : Nat) (hn : n ∈ placed) := hplaced.valid_of_placedOn hp hn
    have hshow := hdone ho
    have hstory (n : Nat) : t.story n = if n ∈ placed then (s.story n).queued else s.story n :=
      (State.story_of_stories hshow.stories_eq n).trans
        (State.story_releasePage (s := s.charge .requestRead) hvalid n)
    have hpage (k : Nat) : t.page k = if p = k then { g with state := .queued } else s.page k :=
      (State.page_of_pages hshow.pages_eq k).trans (State.page_releasePage _ hp k)
    refine ⟨by rw [hpage, if_pos rfl], fun k hk => by rw [hpage, if_neg (Ne.symm hk)], ?_,
      fun n hn => by rw [hstory, if_pos hn]; rfl, fun n hn => by rw [hstory, if_neg hn], fun b => ?_⟩
    · exact hshow.sendQueue_eq.trans (State.sendQueue_releasePage ..)
    · exact (State.basket_of_baskets hshow.baskets_eq b).trans
        (State.basket_releasePage (s := s.charge .requestRead) hvalid (hplaced.placedOn_nodup hp) b)

end Sys2Proof.Machine

/-! ## REOPEN and CLEAR (R20, R80, R81) -/

namespace Sys2Proof.Machine

/-- R20: a story that comes back FILED into basket `b`. -/
def Story.filedIn (b : Nat) (r : Story) : Story := { r with state := .filed, basket := b }

theorem State.urgent_setStory {s : State} {n : Nat} {r : Story} (h : r.urgent = (s.story n).urgent) (m : Nat) :
    ((s.setStory n r).story m).urgent = (s.story m).urgent := by
  rw [State.story_setStory]
  split
  · next hm => rw [h, hm.1]
  · rfl

theorem State.story_fileBack {n : Nat} (hn : 1 ≤ n ∧ n ≤ 511) (b : Nat) (s : State) (m : Nat) :
    (State.fileBack b s n).story m = if n = m then (s.story m).filedIn b else s.story m := by
  unfold State.fileBack
  by_cases hm : n = m
  · subst hm
    simp [State.story_joinBasket, State.story_setStory, hn, Story.filedIn]
  · simp [State.story_joinBasket, State.story_setStory, hm]

/-- Coming back into a basket leaves every story's class as it was. -/
theorem State.urgent_fileBack (s : State) (b n m : Nat) :
    ((State.fileBack b s n).story m).urgent = (s.story m).urgent := by
  unfold State.fileBack
  rw [State.urgent_joinBasket]
  exact State.urgent_setStory (r := { s.story n with state := .filed }) rfl m

theorem State.basket_fileBack {b : Nat} (hb : 1 ≤ b ∧ b ≤ 23) (s : State) (n c : Nat) :
    (State.fileBack b s n).basket c
      = if b = c then joinedAs (fun m => (s.story m).urgent) (s.basket b) n else s.basket c := by
  unfold State.fileBack
  rw [State.basket_joinBasket, funext (State.urgent_setStory (r := { s.story n with state := .filed }) rfl)]
  simp only [hb, and_self, and_true, State.basket_setStory]

/-- R80: the stories join the basket in the order of the list. -/
theorem State.basket_fileBacks {b : Nat} (hb : 1 ≤ b ∧ b ≤ 23) (l : List Nat) (s : State) (c : Nat) :
    (l.foldl (State.fileBack b) s).basket c
      = if b = c then l.foldl (joinedAs (fun m => (s.story m).urgent)) (s.basket c) else s.basket c := by
  induction l generalizing s with
  | nil => simp
  | cons n l ih =>
    rw [List.foldl_cons, ih, funext (State.urgent_fileBack s b n), State.basket_fileBack hb, List.foldl_cons]
    by_cases hc : b = c <;> simp [hc]

/-- R80: the checks of a REOPEN and its effect. -/
theorem doReopen_settled (r : Request) (s : State) :
    doReopen r s = s.settle
      (if 95 < r.page then .noPage
        else if s.isReporter r.requester = true ∨ s.isEditor r.requester = true then .rank
        else if r.u8 9 = 0 ∨ 23 < r.u8 9 then .badArg
        else if (s.page r.page).state ≠ .sent then .badState
        else .done) 0
      ((s.placedOn r.page).foldl (State.fileBack (r.u8 9))
        (s.setPage r.page { s.page r.page with state := .makeup })) := by
  refine State.settle_check_zero validPage_eq_false (by decide) fun _ => ?_
  refine State.settle_check_zero State.isSlotOrSystem_eq_false (by decide) fun _ => ?_
  refine State.settle_check_zero validBasket_eq_false (by decide) fun _ => ?_
  exact State.settle_check_zero Iff.rfl (by decide) fun _ => State.settle_done ..

/-- Settles O34: the checks of R80 end in one outcome; DONE changes the page's state and files each placed story back. -/
theorem reopenReturnsThePage : Obligations.ReopenReturnsThePage := by
  intro s hplaced h p b g placed joined o
  obtain ⟨t, ht, ha, honly, hdone, hrefused⟩ :=
    h.settled (o := o) (l := [.stories, .baskets, .pages]) (doReopen_settled s.request _)
      (((State.setPage_touches ..).weaken).trans (Touches.foldl (fun s n => (State.fileBack_touches _ s n).weaken) _ _))
  refine ⟨t, ht, ha, honly, fun ho => ?_, fun ho => ?_⟩
  · have hshow := hrefused ho
    exact ⟨hshow.stories_eq, hshow.baskets_eq, hshow.pages_eq⟩
  · obtain ⟨hp, hchecks⟩ := check_passed ho
    obtain ⟨-, hchecks⟩ := check_passed hchecks
    obtain ⟨hb, -⟩ := check_passed hchecks
    replace hp : p ≤ 95 := Nat.le_of_not_lt hp
    replace hb : 1 ≤ b ∧ b ≤ 23 := by omega
    have hshow := hdone ho
    have hstory (n : Nat) : t.story n = if n ∈ placed then (s.story n).filedIn b else s.story n := by
      refine (State.story_of_stories hshow.stories_eq n).trans ((State.story_foldl (g := Story.filedIn b)
        (fun _ => rfl) (fun m hm => State.story_fileBack (hplaced.valid_of_placedOn hp hm) b) _ n).trans ?_)
      rw [State.story_setPage, State.story_charge]
      rfl
    have hpage (k : Nat) : t.page k
        = ((s.charge .requestRead).setPage p { g with state := .makeup }).page k :=
      (State.page_of_pages hshow.pages_eq k).trans (State.foldl_keeps (get := fun s => s.page k)
        (fun s n => State.page_of_pages (State.fileBack_touches b s n).pages_eq k) _ _)
    have hbasket (c : Nat) : t.basket c = if b = c then placed.foldl joined (s.basket c) else s.basket c := by
      refine (State.basket_of_baskets hshow.baskets_eq c).trans ((State.basket_fileBacks hb ..).trans ?_)
      simp only [State.story_setPage, State.basket_setPage, State.story_charge, State.basket_charge]
      rfl
    refine ⟨?_, fun k hk => ?_, fun n hn => ?_, fun n hn => ?_, ?_, fun c hc => ?_⟩
    · rw [hpage, State.page_setPage_self _ _ hp]
    · rw [hpage, State.page_setPage_ne _ _ hk, State.page_charge]
    · rw [hstory, if_pos hn]
      rfl
    · rw [hstory, if_neg hn]
    · rw [hbasket, if_pos rfl]
    · rw [hbasket, if_neg (Ne.symm hc)]

/-! ### CLEAR -/

/-- R20, R81: a story of a cleared page. -/
def Story.cleared (r : Story) : Story :=
  if r.state = .queued then { r with state := .filed, basket := 23, placement := none } else { r with placement := none }

theorem Story.cleared_cleared (r : Story) : r.cleared.cleared = r.cleared := by
  by_cases h : r.state = .queued <;> simp [Story.cleared, h]

theorem State.story_clearStory {n : Nat} (hn : 1 ≤ n ∧ n ≤ 511) (s : State) (m : Nat) :
    (s.clearStory n).story m = if n = m then (s.story m).cleared else s.story m := by
  unfold State.clearStory Story.cleared
  by_cases hq : (s.story n).state = .queued
  · by_cases hm : n = m
    · subst hm
      simp [State.story_fileBack hn, State.story_setStory, hn, Story.filedIn, hq]
    · simp [State.story_fileBack hn, State.story_setStory, hm, hq]
  · by_cases hm : n = m
    · subst hm
      simp [State.story_setStory, hn, hq]
    · simp [State.story_setStory, hm, hq]

/-- A page's clearing leaves every story's class as it was. -/
theorem State.urgent_clearStory {n : Nat} (hn : 1 ≤ n ∧ n ≤ 511) (s : State) (m : Nat) :
    ((s.clearStory n).story m).urgent = (s.story m).urgent := by
  rw [State.story_clearStory hn, Story.cleared]
  repeat' split
  all_goals rfl

theorem State.basket_clearStory (s : State) (n c : Nat) : (s.clearStory n).basket c
    = if 23 = c ∧ (s.story n).state = .queued then joinedAs (fun m => (s.story m).urgent) (s.basket c) n
      else s.basket c := by
  unfold State.clearStory
  by_cases hq : (s.story n).state = .queued
  · rw [if_pos hq, State.basket_fileBack (by decide),
      funext (State.urgent_setStory (r := { s.story n with placement := none }) rfl)]
    simp only [State.basket_setStory, hq, and_true]
    split
    · next hc => rw [hc]
    · rfl
  · simp [hq]

/-- R81: the QUEUED stories join basket 23 in the order of the list. -/
theorem State.basket_clearStories {l : List Nat} (hvalid : ∀ n ∈ l, 1 ≤ n ∧ n ≤ 511) (hl : l.Nodup) (s : State)
    (c : Nat) : (l.foldl State.clearStory s).basket c
      = if 23 = c then (l.filter (fun n => (s.story n).state == .queued)).foldl
          (joinedAs (fun m => (s.story m).urgent)) (s.basket c)
        else s.basket c := by
  induction l generalizing s with
  | nil => simp
  | cons n l ih =>
    obtain ⟨hn, hl⟩ := List.nodup_cons.mp hl
    have hnv := hvalid n List.mem_cons_self
    have hrest : l.filter (fun m => ((s.clearStory n).story m).state == .queued)
        = l.filter (fun m => (s.story m).state == .queued) :=
      List.filter_congr fun m hm => by
        have hne : n ≠ m := fun e => hn (e ▸ hm)
        rw [State.story_clearStory hnv, if_neg hne]
    rw [List.foldl_cons, ih (fun k hk => hvalid k (List.mem_cons_of_mem n hk)) hl, hrest,
      funext (State.urgent_clearStory hnv s), State.basket_clearStory, List.filter_cons]
    by_cases hc : 23 = c <;> by_cases hq : (s.story n).state = .queued <;> simp [hc, hq]

/-- R81: the checks of a CLEAR and its effect. -/
theorem doClear_settled (r : Request) (s : State) :
    doClear r s = s.settle
      (if 95 < r.page then .noPage
        else if s.isReporter r.requester = true then .rank
        else if (s.page r.page).state = .empty ∨ (s.page r.page).state = .queued ∨ (s.page r.page).state = .sending then
          .badState
        else if (s.page r.page).state = .faulted ∧ s.isEditor r.requester = true then .rank
        else .done) 0
      ((s.placedOn r.page).foldl State.clearStory (s.setPage r.page
        { s.page r.page with placements := [], state := .empty, resumePos := 0, resumeOff := 0 })) := by
  refine State.settle_check_zero validPage_eq_false (by decide) fun _ => ?_
  refine State.settle_check_zero Iff.rfl (by decide) fun _ => ?_
  refine State.settle_check_zero Iff.rfl (by decide) fun _ => ?_
  exact State.settle_check_zero Iff.rfl (by decide) fun _ => State.settle_done ..

/-- Settles O35: the checks of R81 end in one outcome; DONE empties the page and takes its stories' placements, a QUEUED one
back into basket 23. -/
theorem clearEmptiesThePage : Obligations.ClearEmptiesThePage := by
  intro s hplaced h p q g placed joined back o
  obtain ⟨t, ht, ha, honly, hdone, hrefused⟩ :=
    h.settled (o := o) (l := [.stories, .baskets, .pages]) (doClear_settled s.request _)
      (((State.setPage_touches ..).weaken).trans (Touches.foldl (fun s n => (State.clearStory_touches s n).weaken) _ _))
  refine ⟨t, ht, ha, honly, fun ho => ?_, fun ho => ?_⟩
  · have hshow := hrefused ho
    exact ⟨hshow.stories_eq, hshow.baskets_eq, hshow.pages_eq⟩
  · have hp : p ≤ 95 := Nat.le_of_not_lt (check_passed ho).1
    have hshow := hdone ho
    have hvalid (n : Nat) (hn : n ∈ placed) := hplaced.valid_of_placedOn hp hn
    have hstory (n : Nat) : t.story n = if n ∈ placed then (s.story n).cleared else s.story n := by
      refine (State.story_of_stories hshow.stories_eq n).trans ((State.story_foldl (g := Story.cleared)
        Story.cleared_cleared (fun m hm => State.story_clearStory (hvalid m hm)) _ n).trans ?_)
      rw [State.story_setPage, State.story_charge]
    have hpage (k : Nat) : t.page k = ((s.charge .requestRead).setPage p
        { g with placements := [], state := .empty, resumePos := 0, resumeOff := 0 }).page k :=
      (State.page_of_pages hshow.pages_eq k).trans (State.foldl_keeps (get := fun s => s.page k)
        (fun s n => State.page_of_pages (State.clearStory_touches s n).pages_eq k) _ _)
    have hbasket (c : Nat) : t.basket c = if 23 = c then back.foldl joined (s.basket c) else s.basket c := by
      refine (State.basket_of_baskets hshow.baskets_eq c).trans
        ((State.basket_clearStories hvalid (hplaced.placedOn_nodup hp) _ c).trans ?_)
      simp only [State.story_setPage, State.basket_setPage, State.story_charge, State.basket_charge]
      rfl
    refine ⟨?_, fun k hk => ?_, fun n hn => ?_, fun n hn => ?_, ?_, fun c hc => ?_⟩
    · rw [hpage, State.page_setPage_self _ _ hp]
    · rw [hpage, State.page_setPage_ne _ _ hk, State.page_charge]
    · rw [hstory, if_pos hn]
      rfl
    · rw [hstory, if_neg hn]
    · rw [hbasket, if_pos rfl]
    · rw [hbasket, if_neg (Ne.symm hc)]

end Sys2Proof.Machine

/-! ## RESUME (R20, R79) -/

namespace Sys2Proof.Machine

/-- R20: a SET story becomes QUEUED, any other stays. -/
def Story.requeued (r : Story) : Story := if r.state = .set then { r with state := .queued } else r

theorem Story.requeued_requeued (r : Story) : r.requeued.requeued = r.requeued := by
  by_cases h : r.state = .set <;> simp [Story.requeued, h]

theorem State.story_requeueSet (s : State) (n m : Nat) :
    (s.requeueSet n).story m = if n = m then (s.story m).requeued else s.story m := by
  unfold State.requeueSet Story.requeued
  by_cases hset : (s.story n).state = .set
  · have hn : 1 ≤ n ∧ n ≤ 511 := by
      refine Classical.byContradiction fun hn => ?_
      rw [State.story_out s hn] at hset
      cases hset
    by_cases hm : n = m
    · subst hm
      simp [State.story_setStory, hset, hn]
    · simp [State.story_setStory, hset, hm]
  · by_cases hm : n = m
    · subst hm
      simp [hset]
    · simp [hset, hm]

/-- R79: the page after a RESUME, FROM_POINT where `mode` is 1. -/
def Page.resumed (g : Page) (mode : Nat) : Page :=
  { g with
    state := .queued
    resumePos := if mode = 1 then g.resumePos else 0
    resumeOff := if mode = 1 then g.resumeOff else 0 }

/-- R79: the effect of a RESUME in either mode. -/
def State.resumePage (s : State) (p mode : Nat) : State :=
  let s1 := (s.setPage p ((s.page p).resumed mode)).setSendQueue (p :: s.sendQueue)
  if mode = 1 then s1 else (s.placedOn p).foldl State.requeueSet s1

theorem State.resumePage_touches (s : State) (p mode : Nat) :
    Touches [.stories, .pages, .sendQueue, .marks] s (s.resumePage p mode) := by
  unfold State.resumePage
  have hqueued : Touches [.stories, .pages, .sendQueue, .marks] s
      ((s.setPage p ((s.page p).resumed mode)).setSendQueue (p :: s.sendQueue)) :=
    ((State.setPage_touches ..).weaken).trans ((State.setSendQueue_touches ..).weaken)
  exact Touches.ite hqueued
    (hqueued.trans (Touches.foldl (fun s n => (State.requeueSet_touches s n).weaken) _ _))

theorem State.stories_resumePage_fromPoint (s : State) (p : Nat) : (s.resumePage p 1).stories = s.stories := by
  unfold State.resumePage
  rw [if_pos rfl, State.setSendQueue_stories, State.setPage_stories]

theorem State.story_resumePage_fromStart (s : State) (p n : Nat) :
    (s.resumePage p 2).story n = if n ∈ s.placedOn p then (s.story n).requeued else s.story n := by
  unfold State.resumePage
  rw [if_neg (by decide)]
  refine (State.story_foldl Story.requeued_requeued (fun n _ s m => s.story_requeueSet n m) _ n).trans ?_
  rw [State.story_setSendQueue, State.story_setPage]

theorem State.page_resumePage (s : State) {p : Nat} (mode : Nat) (hp : p ≤ 95) (k : Nat) :
    (s.resumePage p mode).page k = if p = k then (s.page p).resumed mode else s.page k := by
  have hqueued : ((s.setPage p ((s.page p).resumed mode)).setSendQueue (p :: s.sendQueue)).page k
      = if p = k then (s.page p).resumed mode else s.page k := by
    rw [State.page_setSendQueue, State.page_setPage]
    simp only [show p < 96 by omega, and_true]
  unfold State.resumePage
  split
  · exact hqueued
  · exact (State.foldl_keeps (get := fun s => s.page k)
      (fun s n => State.page_of_pages (State.requeueSet_touches s n).pages_eq k) _ _).trans hqueued

theorem State.sendQueue_resumePage (s : State) (p mode : Nat) : (s.resumePage p mode).sendQueue = p :: s.sendQueue := by
  unfold State.resumePage
  split
  · exact State.sendQueue_setSendQueue ..
  · exact (State.foldl_keeps (get := State.sendQueue) (fun s n => (State.requeueSet_touches s n).sendQueue_eq) _ _).trans
      (State.sendQueue_setSendQueue ..)

/-- R79: the checks of a RESUME and its effect. -/
theorem doResume_settled (r : Request) (s : State) :
    doResume r s = s.settle
      (if 95 < r.page then .noPage
        else if s.isReporter r.requester = true ∨ s.isEditor r.requester = true then .rank
        else if r.u8 9 ≠ 1 ∧ r.u8 9 ≠ 2 then .badArg
        else if (s.page r.page).state ≠ .faulted then .badState
        else .done) 0 (s.resumePage r.page (r.u8 9)) := by
  refine State.settle_check_zero validPage_eq_false (by decide) fun _ => ?_
  refine State.settle_check_zero State.isSlotOrSystem_eq_false (by decide) fun _ => ?_
  refine State.settle_check_zero Iff.rfl (by decide) fun _ => ?_
  refine State.settle_check_zero Iff.rfl (by decide) fun _ => ?_
  unfold State.settle State.resumePage Page.resumed
  by_cases hmode : r.u8 9 = 1 <;> simp only [hmode, if_true, if_false]

/-- Settles O36: the checks of R79 end in one outcome; DONE puts the page at the head of the send queue, and FROM_START makes
its SET stories QUEUED. -/
theorem resumeRequeuesThePage : Obligations.ResumeRequeuesThePage := by
  intro s h p mode g placed o
  obtain ⟨t, ht, ha, honly, hdone, hrefused⟩ :=
    h.settled (o := o) (l := [.stories, .pages, .sendQueue]) (doResume_settled s.request _)
      ((State.resumePage_touches ..).weaken)
  refine ⟨t, ht, ha, honly, fun ho => ?_, fun ho => ?_⟩
  · have hshow := hrefused ho
    exact ⟨hshow.stories_eq, hshow.pages_eq, hshow.sendQueue_eq⟩
  · have hp : p ≤ 95 := Nat.le_of_not_lt (check_passed ho).1
    have hshow := hdone ho
    have hpage (k : Nat) : t.page k = if p = k then g.resumed mode else s.page k :=
      (State.page_of_pages hshow.pages_eq k).trans (State.page_resumePage _ mode hp k)
    refine ⟨?_, fun k hk => ?_, ?_, fun hpoint => ?_, fun hstart n => ?_⟩
    · rw [hpage, if_pos rfl]
      rfl
    · rw [hpage, if_neg (Ne.symm hk)]
    · exact hshow.sendQueue_eq.trans (State.sendQueue_resumePage ..)
    · rw [hshow.stories_eq, show s.request.u8 9 = 1 from hpoint]
      exact State.stories_resumePage_fromPoint ..
    · have hstory : t.story n = if n ∈ placed then (s.story n).requeued else s.story n := by
        rw [State.story_of_stories hshow.stories_eq, show s.request.u8 9 = 2 from hstart]
        exact State.story_resumePage_fromStart ..
      by_cases hn : n ∈ placed
      · rw [hstory, if_pos hn, Story.requeued]
        simp only [hn, true_and]
      · rw [hstory, if_neg hn, if_neg fun c => hn c.1]

end Sys2Proof.Machine

/-! ## The two resets (R171) -/

namespace Sys2Proof.Machine

theorem reset_refusedFlag {t : State} (h : t.notices = NoticeWriter.reset) (c : ContextKind) : t.refusedFlag c = false := by
  unfold State.refusedFlag
  rw [h]
  cases c with
  | terminal k => exact Table.at1_fill ..
  | system => rfl
  | unknown => rfl

/-- Settles O3: the tables of both resets are filled with the first values, and BUSRST keeps clock and width tables. -/
theorem resetsOfTheOtherBlocks : Obligations.ResetsOfTheOtherBlocks := by
  intro s
  refine ⟨s.powerReset, s.busReset, rfl, rfl, rfl, rfl, fun e => Table.at1_fill .., rfl, rfl, rfl, rfl, rfl,
    fun t ht => ?_⟩
  have hboth {α : Type} {get : State → α} {x : α} (hp : get s.powerReset = x) (hb : get s.busReset = x) :
      get t = x := by
    rcases ht with rfl | rfl
    · exact hp
    · exact hb
  have hstories : t.stories = State.reset.stories := hboth rfl rfl
  have hbaskets : t.baskets = State.reset.baskets := hboth rfl rfl
  have hlist : t.copyfit.list = [] := hboth (get := fun t => t.copyfit.list) rfl rfl
  have hpages : t.pages = State.reset.pages := hboth rfl rfl
  have hqueue : t.sendQueue = [] := hboth rfl rfl
  have hpath : t.path = Path.reset := hboth rfl rfl
  have hnotices : t.notices = NoticeWriter.reset := hboth rfl rfl
  have hlink : t.link = Link.reset := hboth rfl rfl
  have hlines : t.lines = State.reset.lines := hboth rfl rfl
  have hterms : t.terms = State.reset.terms := hboth rfl rfl
  have hscanner : t.scanner = Scanner.reset := hboth rfl rfl
  have hpins : t.pins = { s.pins with attn := false } := hboth rfl rfl
  rw [hpath, hscanner, hpins]
  refine ⟨fun n => ?_, fun k => ?_, hlist, fun k => ?_, hqueue, rfl, rfl, rfl, rfl, rfl, rfl, rfl, rfl, rfl,
    reset_refusedFlag hnotices, hlink, fun n => ?_, fun k => ?_, rfl, rfl, rfl, rfl, rfl, rfl⟩
  · exact (State.story_of_stories hstories n).trans (Table.at1_fill ..)
  · exact (State.basket_of_baskets hbaskets k).trans (Table.at1_fill ..)
  · exact (State.page_of_pages hpages k).trans (Table.at0_fill ..)
  · exact (State.line_of_lines hlines n).trans (Table.at0_fill ..)
  · exact (State.term_of_terms hterms k).trans (Table.at1_fill ..)

end Sys2Proof.Machine

/-! ## KILL (R15, R16, R36, R71) -/

namespace Sys2Proof.Machine

/-! ### A placement removed from its page (R71) -/

theorem PlacementsRight.congr {s t : State} (h : PlacementsRight s) (hpage : ∀ p, t.page p = s.page p)
    (hstory : ∀ n, (t.story n).placement = (s.story n).placement ∧ (t.story n).state = (s.story n).state) :
    PlacementsRight t := by
  simp only [PlacementsRight, hpage, hstory]
  exact h

theorem State.story_renumber_not_mem {p n : Nat} {l : List Placed} (hn : n ∉ l.map (·.story)) (k : Nat) (s : State) :
    (s.renumber p k l).story n = s.story n := by
  induction l generalizing k s with
  | nil => rfl
  | cons q l ih =>
    simp only [List.map_cons, List.mem_cons, not_or] at hn
    rw [State.renumber, ih hn.2, State.story_setStory_ne _ _ hn.1]

/-- R65: the story at position `j` of the list takes position `k + j` of the page. -/
theorem State.story_renumber {p j : Nat} {q : Placed} {l : List Placed} (hvalid : ∀ q ∈ l, 1 ≤ q.story ∧ q.story ≤ 511)
    (hl : (l.map (·.story)).Nodup) (hj : l[j]? = some q) (k : Nat) (s : State) :
    (s.renumber p k l).story q.story = { s.story q.story with placement := some (p, k + j) } := by
  induction l generalizing j k s with
  | nil => cases hj
  | cons a l ih =>
    rw [List.map_cons, List.nodup_cons] at hl
    rw [State.renumber]
    cases j with
    | zero =>
      obtain rfl : a = q := by simpa using hj
      rw [State.story_renumber_not_mem hl.1, State.story_setStory_self _ _ (hvalid a List.mem_cons_self), Nat.add_zero]
    | succ j =>
      rw [List.getElem?_cons_succ] at hj
      have hne : q.story ≠ a.story := fun e =>
        hl.1 (e ▸ List.mem_map_of_mem (List.mem_of_getElem? hj))
      rw [ih (fun q hq => hvalid q (List.mem_cons_of_mem a hq)) hl.2 hj, State.story_setStory_ne _ _ hne,
        show k + 1 + j = k + (j + 1) by omega]

/-- R71: what the removal of the placement at position `i` of page `p` makes of another story. -/
def Story.movedUp (p i : Nat) (r : Story) : Story :=
  match r.placement with
  | some (g, j) => if g = p ∧ i < j then { r with placement := some (p, j - 1) } else r
  | none => r

/-- R65: a story of a page's list without its entry `i` stands at the entry it had before. -/
theorem PlacementsRight.eraseIdx {s : State} (h : PlacementsRight s) {p i j : Nat} (hp : p ≤ 95) {q : Placed}
    (hq : ((s.page p).placements.eraseIdx i)[j]? = some q) :
    (1 ≤ q.story ∧ q.story ≤ 511) ∧ (s.story q.story).placement = some (p, if j < i then j else j + 1) := by
  rw [List.getElem?_eraseIdx] at hq
  split at hq
  · next hji => rw [if_pos hji]; exact h.entry hp hq
  · next hji => rw [if_neg hji]; exact h.entry hp hq

theorem State.removePlacement_none {s : State} {n : Nat} (h : (s.story n).placement = none) : s.removePlacement n = s := by
  unfold State.removePlacement
  rw [h]

theorem State.removePlacement_some {s : State} {n p i : Nat} (h : (s.story n).placement = some (p, i)) :
    s.removePlacement n
      = (((s.setPage p { s.page p with placements := (s.page p).placements.eraseIdx i }).setStory n
          { s.story n with placement := none }).renumber p 0 ((s.page p).placements.eraseIdx i)) := by
  unfold State.removePlacement
  rw [h]
  simp only [State.story_setPage]

theorem State.page_removePlacement {s : State} {n p i : Nat} (h : (s.story n).placement = some (p, i)) (hp : p ≤ 95)
    (k : Nat) : (s.removePlacement n).page k
      = if p = k then { s.page p with placements := (s.page p).placements.eraseIdx i } else s.page k := by
  rw [State.removePlacement_some h, State.page_of_pages (State.renumber_touches ..).pages_eq, State.page_setStory,
    State.page_setPage]
  simp only [show p < 96 by omega, and_true]

/-- R71: the story loses its placement, and the stories behind it on its page move up one position. -/
theorem State.story_removePlacement {s : State} (h : PlacementsRight s) {n p i : Nat}
    (hplace : (s.story n).placement = some (p, i)) (m : Nat) : (s.removePlacement n).story m
      = if n = m then { s.story n with placement := none } else (s.story m).movedUp p i := by
  obtain ⟨hp, q, hq, hqn⟩ := h.listed hplace
  have hn : 1 ≤ n ∧ n ≤ 511 := hqn ▸ (h.entry hp hq).1
  let rest := (s.page p).placements.eraseIdx i
  have hrest (j : Nat) (q : Placed) (hq : rest[j]? = some q) := h.eraseIdx hp hq
  have hnodup : (rest.map (·.story)).Nodup :=
    (h.placedOn_nodup hp).sublist ((List.eraseIdx_sublist _ _).map _)
  have hvalid (q : Placed) (hq : q ∈ rest) : 1 ≤ q.story ∧ q.story ≤ 511 := by
    obtain ⟨j, hj⟩ := List.mem_iff_getElem?.mp hq
    exact (hrest j q hj).1
  have hout : n ∉ rest.map (·.story) := by
    intro hmem
    obtain ⟨q, hq, rfl⟩ := List.mem_map.mp hmem
    obtain ⟨j, hj⟩ := List.mem_iff_getElem?.mp hq
    have hpos := (hrest j q hj).2
    rw [hplace, Option.some.injEq, Prod.mk.injEq] at hpos
    split at hpos <;> omega
  rw [State.removePlacement_some hplace]
  by_cases hm : n = m
  · subst hm
    rw [if_pos rfl, State.story_renumber_not_mem hout, State.story_setStory_self _ _ hn]
  rw [if_neg hm]
  by_cases hmem : m ∈ rest.map (·.story)
  · obtain ⟨q, hq, rfl⟩ := List.mem_map.mp hmem
    obtain ⟨j, hj⟩ := List.mem_iff_getElem?.mp hq
    have hpos := (hrest j q hj).2
    rw [State.story_renumber hvalid hnodup hj, State.story_setStory_ne _ _ (Ne.symm hm), State.story_setPage,
      Story.movedUp, hpos, Nat.zero_add]
    by_cases hji : j < i
    · have hstay : ¬i < j := by omega
      simp only [if_pos hji, hstay, and_false, if_false] at hpos ⊢
      rw [← hpos]
    · have hmove : i < j + 1 := by omega
      simp [hji, hmove]
  · rw [State.story_renumber_not_mem hmem, State.story_setStory_ne _ _ (Ne.symm hm), State.story_setPage, Story.movedUp]
    split
    · next g j hpos =>
      rw [if_neg]
      rintro ⟨rfl, hij⟩
      refine hmem ?_
      obtain ⟨-, q, hq, rfl⟩ := h.listed hpos
      refine List.mem_map_of_mem (List.mem_of_getElem? (i := j - 1) ?_)
      rw [List.getElem?_eraseIdx, if_neg (by omega), show j - 1 + 1 = j by omega]
      exact hq
    · rfl

end Sys2Proof.Machine

namespace Sys2Proof.Machine

/-! ### The changes of a KILL (R16, R36) -/

/-- R36: what a KILL makes of an abandoned recount: D from the L held, and the fit worked out from it. -/
def Story.abandoned (r : Story) : Story :=
  if r.recount = .idle then r
  else { r with recount := .idle, d := depth r.l r.leading, fit := fitOf (depth r.l r.leading) r.hole r.leading }

theorem State.story_abandonForKill (s : State) {n : Nat} (hn : 1 ≤ n ∧ n ≤ 511) (m : Nat) :
    (s.abandonForKill n).story m = if n = m then (s.story n).abandoned else s.story m := by
  unfold State.abandonForKill Story.abandoned
  by_cases hidle : (s.story n).recount = .idle
  · rw [if_pos hidle, if_pos hidle]
    split
    · next h => rw [h]
    · rfl
  · simp only [if_neg hidle, State.story_setStory, State.story_leaveRecount, hn, and_true, and_self, if_true]
    split <;> rfl

theorem State.copyfit_abandonForKill (s : State) (n : Nat) : (s.abandonForKill n).copyfit
    = if (s.story n).recount = .idle then s.copyfit
      else { s.copyfit with list := s.copyfit.list.filter (fun e => e.story ≠ n) } := by
  unfold State.abandonForKill
  split
  · rfl
  · exact (State.setStory_copyfit ..).trans (State.copyfit_leaveRecount ..)

/-- R16: the state in which a KILL takes the story from its page: it has left its basket and its holder. -/
def State.withdrawn (s : State) (n : Nat) : State :=
  (s.leaveBasket n).setStory n { (s.leaveBasket n).story n with holder := 0 }

theorem State.killStory_eq (s : State) (n : Nat) : s.killStory n
    = (((s.withdrawn n).removePlacement n).abandonForKill n).setStory n
        { (((s.withdrawn n).removePlacement n).abandonForKill n).story n with state := .killed } := rfl

theorem State.story_withdrawn (s : State) {n : Nat} (hn : 1 ≤ n ∧ n ≤ 511) (m : Nat) :
    (s.withdrawn n).story m = if n = m then { s.story n with holder := 0, basket := 0 } else s.story m := by
  unfold State.withdrawn
  by_cases hm : n = m
  · subst hm
    simp [State.story_setStory, State.story_leaveBasket, hn]
  · simp [State.story_setStory, State.story_leaveBasket, hm]

theorem State.placement_withdrawn (s : State) {n : Nat} (hn : 1 ≤ n ∧ n ≤ 511) :
    ((s.withdrawn n).story n).placement = (s.story n).placement := by
  rw [State.story_withdrawn s hn, if_pos rfl]

theorem State.page_withdrawn (s : State) (n p : Nat) : (s.withdrawn n).page p = s.page p := by
  unfold State.withdrawn
  rw [State.page_setStory, State.page_of_pages (State.leaveBasket_touches ..).pages_eq]

theorem PlacementsRight.withdrawn {s : State} (h : PlacementsRight s) {n : Nat} (hn : 1 ≤ n ∧ n ≤ 511) :
    PlacementsRight (s.withdrawn n) := by
  refine h.congr (s.page_withdrawn n) fun m => ?_
  rw [State.story_withdrawn s hn]
  split
  · next hm => rw [← hm]; exact ⟨rfl, rfl⟩
  · exact ⟨rfl, rfl⟩

/-- R16: the record of a KILLED story. -/
def Story.killed (r : Story) : Story :=
  { r.abandoned with state := .killed, holder := 0, basket := 0, placement := none }

theorem State.basket_killStory (s : State) (n c : Nat) :
    (s.killStory n).basket c = if (s.story n).basket = c then (s.basket c).erase n else s.basket c := by
  rw [State.killStory_eq, State.basket_setStory, State.basket_of_baskets (State.abandonForKill_touches ..).baskets_eq,
    State.basket_of_baskets (State.removePlacement_touches ..).baskets_eq, State.withdrawn, State.basket_setStory,
    State.basket_leaveBasket]

/-- R16: a KILL of a story that is on no page changes no page. -/
theorem State.pages_killStory_none {s : State} {n : Nat} (hn : 1 ≤ n ∧ n ≤ 511) (h : (s.story n).placement = none) :
    (s.killStory n).pages = s.pages := by
  rw [State.killStory_eq, State.removePlacement_none ((s.placement_withdrawn hn).trans h), State.setStory_pages,
    (State.abandonForKill_touches ..).pages_eq, State.withdrawn, State.setStory_pages,
    (State.leaveBasket_touches ..).pages_eq]

theorem State.page_killStory {s : State} {n p i : Nat} (hn : 1 ≤ n ∧ n ≤ 511) (h : (s.story n).placement = some (p, i))
    (hp : p ≤ 95) (k : Nat) : (s.killStory n).page k
      = if p = k then { s.page p with placements := (s.page p).placements.eraseIdx i } else s.page k := by
  rw [State.killStory_eq, State.page_setStory, State.page_of_pages (State.abandonForKill_touches ..).pages_eq,
    State.page_removePlacement ((s.placement_withdrawn hn).trans h) hp, State.page_withdrawn, State.page_withdrawn]

/-- R71: what becomes of another story when a story with placement `place` is removed from its page. -/
def Story.afterRemoval (place : Option (Nat × Nat)) (r : Story) : Story :=
  match place with
  | some (p, i) => r.movedUp p i
  | none => r

theorem State.story_removePlacement_withdrawn {s : State} (h : PlacementsRight s) {n : Nat} (hn : 1 ≤ n ∧ n ≤ 511)
    (m : Nat) : ((s.withdrawn n).removePlacement n).story m
      = if n = m then { s.story n with holder := 0, basket := 0, placement := none }
        else (s.story m).afterRemoval (s.story n).placement := by
  have hself : (s.withdrawn n).story n = { s.story n with holder := 0, basket := 0 } := by
    rw [State.story_withdrawn s hn, if_pos rfl]
  have hsame := State.placement_withdrawn s hn
  cases hplace : (s.story n).placement with
  | none =>
    rw [State.removePlacement_none (hsame.trans hplace), State.story_withdrawn s hn]
    split
    · rw [← hplace]
    · rfl
  | some x =>
    rw [State.story_removePlacement (h.withdrawn hn) (hsame.trans hplace), hself]
    by_cases hm : n = m
    · rw [if_pos hm, if_pos hm]
    · rw [if_neg hm, if_neg hm, State.story_withdrawn s hn, if_neg hm]
      rfl

theorem State.story_killStory {s : State} (h : PlacementsRight s) {n : Nat} (hn : 1 ≤ n ∧ n ≤ 511) (m : Nat) :
    (s.killStory n).story m
      = if n = m then (s.story n).killed else (s.story m).afterRemoval (s.story n).placement := by
  rw [State.killStory_eq, State.story_setStory]
  simp only [State.story_abandonForKill _ hn, State.story_removePlacement_withdrawn h hn, hn, and_true, and_self, if_true]
  by_cases hm : n = m
  · rw [if_pos hm, if_pos hm, Story.killed, Story.abandoned, Story.abandoned]
    split <;> rfl
  · rw [if_neg hm, if_neg hm, if_neg hm, if_neg hm]

theorem State.copyfit_killStory {s : State} (h : PlacementsRight s) {n : Nat} (hn : 1 ≤ n ∧ n ≤ 511) :
    (s.killStory n).copyfit = if (s.story n).recount = .idle then s.copyfit
      else { s.copyfit with list := s.copyfit.list.filter (fun e => e.story ≠ n) } := by
  have hkeeps : ((s.withdrawn n).removePlacement n).copyfit = s.copyfit := by
    rw [(State.removePlacement_touches ..).copyfit_eq, State.withdrawn, State.setStory_copyfit,
      (State.leaveBasket_touches ..).copyfit_eq]
  rw [State.killStory_eq, State.setStory_copyfit, State.copyfit_abandonForKill,
    State.story_removePlacement_withdrawn h hn, if_pos rfl, hkeeps]

/-- R15: the checks of a KILL and its effect. -/
theorem doKill_settled (r : Request) (s : State) :
    doKill r s = s.settle
      (if r.story = 0 ∨ 511 < r.story then .noStory
        else if s.isReporter r.requester = true then .rank
        else if (s.story r.story).state ≠ .filed ∧ (s.story r.story).state ≠ .held then .badState
        else if (s.story r.story).state = .held ∧ (s.story r.story).holder ≠ r.requester
          ∧ s.isEditor r.requester = true then .held
        else .done) 0 (s.killStory r.story) := by
  refine State.settle_check_zero validStory_eq_false (by decide) fun _ => ?_
  refine State.settle_check_zero Iff.rfl (by decide) fun hrank => ?_
  refine State.settle_check_zero Iff.rfl (by decide) fun _ => ?_
  refine State.settle_check_zero ?_ (by decide) fun _ => State.settle_done ..
  rw [State.isEditor_of_not_slot hrank]

/-- Settles O23: the checks of R15 end in one outcome; DONE makes R16's changes, with the later placements of the page moved
up. -/
theorem killWithdrawsTheStory : Obligations.KillWithdrawsTheStory := by
  intro s hplaced h n q r d o
  obtain ⟨t, ht, ha, honly, hdone, hrefused⟩ :=
    h.settled (o := o) (l := [.stories, .baskets, .pages, .copyfit]) (doKill_settled s.request _)
      ((State.killStory_touches ..).weaken)
  refine ⟨t, ht, ha, honly, fun ho => ?_, fun ho => ?_⟩
  · have hshow := hrefused ho
    exact ⟨hshow.stories_eq, hshow.baskets_eq, hshow.pages_eq, hshow.copyfit_eq⟩
  · have hn : 1 ≤ n ∧ n ≤ 511 := by
      have hn := (check_passed ho).1
      omega
    have hshow := hdone ho
    have hcharged : PlacementsRight (s.charge .requestRead) := hplaced
    have hstory (m : Nat) : t.story m = if n = m then r.killed else (s.story m).afterRemoval r.placement :=
      (State.story_of_stories hshow.stories_eq m).trans (State.story_killStory hcharged hn m)
    have hbasket (c : Nat) : t.basket c = if r.basket = c then (s.basket c).erase n else s.basket c :=
      (State.basket_of_baskets hshow.baskets_eq c).trans (State.basket_killStory ..)
    refine ⟨?_, by rw [hbasket, if_pos rfl], fun c hc => by rw [hbasket, if_neg (Ne.symm hc)], ?_, fun hnone => ?_,
      fun p i hplace => ?_⟩
    · rw [hstory, if_pos rfl, Story.killed, Story.abandoned]
      by_cases hidle : r.recount = .idle
      · simp [hidle]
      · simp only [if_neg hidle]
        rfl
    · exact hshow.copyfit_eq.trans (State.copyfit_killStory hcharged hn)
    · refine ⟨hshow.pages_eq.trans (State.pages_killStory_none (s := s.charge .requestRead) hn hnone), fun m hm => ?_⟩
      rw [hstory, if_neg (Ne.symm hm), hnone]
      rfl
    · obtain ⟨hp, -⟩ := hplaced.listed hplace
      have hpage (k : Nat) : t.page k
          = if p = k then { s.page p with placements := (s.page p).placements.eraseIdx i } else s.page k :=
        (State.page_of_pages hshow.pages_eq k).trans
          (State.page_killStory (s := s.charge .requestRead) hn hplace hp k)
      refine ⟨by rw [hpage, if_pos rfl], fun g hg => by rw [hpage, if_neg (Ne.symm hg)], fun m hm => ?_⟩
      rw [hstory, if_neg (Ne.symm hm), hplace]
      rfl

end Sys2Proof.Machine

/-! # The edition clock (chapter 3)

An evaluation is described in three layers: close processing page by page (`Judged`), the ways in which the steps of R54 to
R56 end (`Concluded`), and the evaluations of one advance or setting in turn (`evaluatedInTurn_foldl`). The commands of the
clock then say what they evaluate. -/

/-! ## What a change of the time or of an edition record leaves alone -/

namespace Sys2Proof.Machine

/-- `t` has the time, the second counter and the grace length of `s`. -/
def TimeKept (s t : State) : Prop :=
  t.clock.time = s.clock.time ∧ t.clock.second = s.clock.second ∧ t.clock.grace = s.clock.grace

theorem TimeKept.of_clock {s t : State} (h : t.clock = s.clock) : TimeKept s t := by
  simp only [TimeKept, h, and_self]

theorem TimeKept.trans {s t u : State} (h1 : TimeKept s t) (h2 : TimeKept t u) : TimeKept s u := by
  obtain ⟨htime, hsecond, hgrace⟩ := h1
  obtain ⟨htime', hsecond', hgrace'⟩ := h2
  exact ⟨htime'.trans htime, hsecond'.trans hsecond, hgrace'.trans hgrace⟩

/-- The tables that close processing reads and changes, the notice writer, and the time are the same in `s` and `t`. -/
structure SameTables (s t : State) : Prop where
  pages : t.pages = s.pages
  sendQueue : t.sendQueue = s.sendQueue
  stories : t.stories = s.stories
  baskets : t.baskets = s.baskets
  notices : t.notices = s.notices
  time : t.clock.time = s.clock.time

theorem SameTables.refl (s : State) : SameTables s s := ⟨rfl, rfl, rfl, rfl, rfl, rfl⟩

theorem SameTables.trans {s t u : State} (h1 : SameTables s t) (h2 : SameTables t u) : SameTables s u :=
  ⟨h2.pages.trans h1.pages, h2.sendQueue.trans h1.sendQueue, h2.stories.trans h1.stories, h2.baskets.trans h1.baskets,
    h2.notices.trans h1.notices, h2.time.trans h1.time⟩

theorem SameTables.of_touches {l : List Region} {s t : State} (h : Touches l s t) (htime : t.clock.time = s.clock.time)
    (hl : (l.contains .pages || l.contains .sendQueue || l.contains .stories || l.contains .baskets
      || l.contains .notices) = false := by decide) : SameTables s t := by
  simp only [Bool.or_eq_false_iff] at hl
  obtain ⟨⟨⟨⟨hpages, hqueue⟩, hstories⟩, hbaskets⟩, hnotices⟩ := hl
  exact ⟨h.pages_eq (by simpa using hpages), h.sendQueue_eq (by simpa using hqueue),
    h.stories_eq (by simpa using hstories), h.baskets_eq (by simpa using hbaskets),
    h.notices_eq (by simpa using hnotices), htime⟩

/-- Besides the tables, the grace length and every edition record are the same in `s` and `t`. -/
structure SameRecords (s t : State) : Prop extends SameTables s t where
  grace : t.clock.grace = s.clock.grace
  edition : ∀ d, t.edition d = s.edition d

theorem SameRecords.trans {s t u : State} (h1 : SameRecords s t) (h2 : SameRecords t u) : SameRecords s u :=
  ⟨h1.toSameTables.trans h2.toSameTables, h2.grace.trans h1.grace, fun d => (h2.edition d).trans (h1.edition d)⟩

theorem SameRecords.of_touches {l : List Region} {s t : State} (h : Touches l s t)
    (hl : (l.contains .pages || l.contains .sendQueue || l.contains .stories || l.contains .baskets
      || l.contains .notices) = false := by decide) (hclock : l.contains .clock = false := by decide) :
    SameRecords s t := by
  have hclock : t.clock = s.clock := h.clock_eq (by simpa using hclock)
  exact ⟨.of_touches h (by rw [hclock]) hl, by rw [hclock], State.edition_of_clock hclock⟩

theorem State.setEdition_timeKept (s : State) (e : Nat) (r : Edition) : TimeKept s (s.setEdition e r) := by
  unfold State.setEdition
  split
  · exact .of_clock rfl
  · exact TimeKept.trans (t := s.withClock { s.clock with editions := s.clock.editions.set1 e r }) ⟨rfl, rfl, rfl⟩
      (.of_clock (State.mark_clock ..))

theorem State.setEdition_sameTables (s : State) (e : Nat) (r : Edition) : SameTables s (s.setEdition e r) :=
  .of_touches (State.setEdition_touches s e r) (State.setEdition_timeKept s e r).1

theorem State.mem_marks_setEdition {s : State} {e : Nat} {r : Edition} (h : r ≠ s.edition e) :
    .edition e ∈ (s.setEdition e r).marks := by
  unfold State.setEdition
  rw [if_neg h]
  exact State.mem_marks_mark ..

theorem State.edition_setEdition_self (s : State) {e : Nat} (r : Edition) (he : 1 ≤ e ∧ e ≤ 4) :
    (s.setEdition e r).edition e = r := by rw [State.edition_setEdition, if_pos ⟨rfl, he⟩]

theorem State.edition_setEdition_ne (s : State) {e d : Nat} (r : Edition) (h : d ≠ e) :
    (s.setEdition e r).edition d = s.edition d := by rw [State.edition_setEdition, if_neg (fun c => h c.1.symm)]

theorem State.edition_out (s : State) {e : Nat} (h : ¬(1 ≤ e ∧ e ≤ 4)) : s.edition e = Edition.unscheduled := by
  unfold State.edition
  rcases Nat.eq_zero_or_pos e with rfl | he
  · exact Table.at1_zero ..
  · exact Table.at1_gt _ _ (by omega)

/-- R50: only the four editions can be scheduled. -/
theorem State.valid_of_scheduled {s : State} {e : Nat} (h : (s.edition e).scheduled = true) : 1 ≤ e ∧ e ≤ 4 := by
  refine Decidable.byContradiction fun hout => ?_
  rw [State.edition_out s hout] at h
  exact absurd h (by decide)

theorem validEdition_eq_true {e : Nat} : validEdition e = true ↔ 1 ≤ e ∧ e ≤ 4 := by
  simp only [validEdition, decide_eq_true_eq]

end Sys2Proof.Machine

/-! ## Notices handed over (R163) -/

namespace Sys2Proof.Machine

/-- R163: the notice writer once a notice has been handed over. -/
def NoticeWriter.handed (w : NoticeWriter) (n : Notice) : NoticeWriter :=
  if (w.reserved + 64 - w.consumer) % 64 = 63 then { w with overflow := true, wordFlag := true }
  else { w with reserved := (w.reserved + 1) % 64, unwritten := w.unwritten ++ [n] }

theorem State.notices_notify (s : State) (n : Notice) : (s.notify n).notices = s.notices.handed n := by
  unfold State.notify NoticeWriter.handed
  split <;> rfl

theorem State.notices_notifyAll (l : List Notice) (s : State) :
    (l.foldl State.notify s).notices = l.foldl NoticeWriter.handed s.notices := by
  induction l generalizing s with
  | nil => rfl
  | cons n l ih => rw [List.foldl_cons, ih, State.notices_notify, List.foldl_cons]

end Sys2Proof.Machine

/-! ## Close processing (R60, R61) -/

namespace Sys2Proof.Machine

/-- R60: of the pages `l`, those that the close of edition `e` takes. -/
def takenAmong (s : State) (e : Nat) (l : List Nat) : List Nat :=
  l.filter (fun p => (s.page p).state == .makeup && (s.page p).edition == e)

theorem mem_of_mem_takenAmong {s : State} {e p : Nat} {l : List Nat} (h : p ∈ takenAmong s e l) : p ∈ l :=
  (List.mem_filter.mp h).1

/-- R61: of the pages `l`, those that the close of edition `e` releases. -/
def readyAmong (s : State) (e : Nat) (l : List Nat) : List Nat := (takenAmong s e l).filter (pageReady s)

/-- R18, R61: the stories on the pages of `l` that the close of edition `e` releases. -/
def queuedAmong (s : State) (e : Nat) (l : List Nat) : List Nat := (readyAmong s e l).flatMap s.placedOn

/-- R61: the notice of page `p`, which the close of edition `e` makes LATE. -/
def lateNotice (s : State) (e p : Nat) : Notice :=
  { kind := .late, terminal := none, page := some p, cause := .noCause
    story := ((s.placedOn p).find? (unreadyStory s)).getD 0
    unit := some e, graceCount := 0, time := s.clock.time, graceEnd := 0 }

/-- R61: the LATE notices of the pages of `l`. -/
def lateNotices (s : State) (e : Nat) (l : List Nat) : List Notice :=
  ((takenAmong s e l).filter (fun p => !pageReady s p)).map (lateNotice s e)

/-- R61: the record of a page that the close of an edition takes. -/
def Page.judged (ready : Bool) (g : Page) : Page := { g with state := if ready = true then .queued else .late }

/-- What close processing of edition `e` makes of the state `s` once it has judged the pages `l`. -/
structure Judged (e : Nat) (l : List Nat) (s t : State) : Prop where
  page : ∀ p, t.page p = if p ∈ takenAmong s e l then (s.page p).judged (pageReady s p) else s.page p
  sendQueue : t.sendQueue = s.sendQueue ++ readyAmong s e l
  story : ∀ n, t.story n = if n ∈ queuedAmong s e l then (s.story n).queued else s.story n
  basket : ∀ b, t.basket b
    = ((queuedAmong s e l).filter (fun n => (s.story n).basket == b)).foldl (fun l n => l.erase n) (s.basket b)
  notices : t.notices = (lateNotices s e l).foldl NoticeWriter.handed s.notices

/-- R65: no story is placed on two pages. -/
theorem PlacementsRight.page_unique {s : State} (h : PlacementsRight s) {p q n : Nat} (hp : p ≤ 95) (hq : q ≤ 95)
    (hnp : n ∈ s.placedOn p) (hnq : n ∈ s.placedOn q) : p = q := by
  have hplaced {p : Nat} (hp : p ≤ 95) (hn : n ∈ s.placedOn p) : ∃ i, (s.story n).placement = some (p, i) := by
    obtain ⟨x, hx, rfl⟩ := List.mem_map.mp hn
    obtain ⟨i, hi⟩ := List.mem_iff_getElem?.mp hx
    exact ⟨i, (h.entry hp hi).2⟩
  obtain ⟨i, hi⟩ := hplaced hp hnp
  obtain ⟨j, hj⟩ := hplaced hq hnq
  rw [hi, Option.some.injEq, Prod.mk.injEq] at hj
  exact hj.1

theorem pageReady_eq (s : State) (p : Nat) : pageReady s p
    = ((s.placedOn p) != [] && (s.placedOn p).all (fun n => !unreadyStory s n)) := by
  have hempty : ((s.page p).placements != []) = ((s.placedOn p) != []) := by
    rw [Bool.eq_iff_iff, bne_iff_ne, bne_iff_ne, State.placedOn, ne_eq, ne_eq, List.map_eq_nil_iff]
  unfold pageReady
  rw [hempty, State.placedOn, List.all_map]
  rfl

/-- The model's test of a page is R60's. -/
theorem State.qualifies_eq (s : State) (p : Nat) : s.qualifies p = pageReady s p := by
  rw [pageReady_eq, State.qualifies]
  congr 1
  cases s.placedOn p <;> rfl

/-- Whether a page is ready rests on its record and on the stories placed on it. -/
theorem pageReady_congr {s u : State} {p : Nat} (hpage : u.page p = s.page p)
    (hstory : ∀ n ∈ s.placedOn p, u.story n = s.story n) : pageReady u p = pageReady s p := by
  have hplaced : u.placedOn p = s.placedOn p := by rw [State.placedOn, hpage, State.placedOn]
  rw [pageReady_eq, pageReady_eq, hplaced]
  congr 1
  rw [Bool.eq_iff_iff, List.all_eq_true, List.all_eq_true]
  refine forall₂_congr fun n hn => ?_
  rw [unreadyStory, hstory n hn, unreadyStory]

theorem lateNotice_congr {s u : State} {e p : Nat} (htime : u.clock.time = s.clock.time) (hpage : u.page p = s.page p)
    (hstory : ∀ n ∈ s.placedOn p, u.story n = s.story n) : lateNotice u e p = lateNotice s e p := by
  have hplaced : u.placedOn p = s.placedOn p := by rw [State.placedOn, hpage, State.placedOn]
  have hfind : (s.placedOn p).find? (unreadyStory u) = (s.placedOn p).find? (unreadyStory s) := by
    rw [← List.head?_filter, ← List.head?_filter]
    exact congrArg List.head? (List.filter_congr fun n hn => by rw [unreadyStory, hstory n hn, unreadyStory])
  rw [lateNotice, htime, hplaced, hfind, lateNotice]

theorem Judged.nil (e : Nat) (s : State) : Judged e [] s s :=
  ⟨fun _ => rfl, (List.append_nil _).symm, fun _ => rfl, fun _ => rfl, rfl⟩

theorem takenAmong_concat (s : State) (e : Nat) (l : List Nat) (p : Nat) : takenAmong s e (l ++ [p])
    = takenAmong s e l ++ if (s.page p).state = .makeup ∧ (s.page p).edition = e then [p] else [] := by
  simp [takenAmong, List.filter_cons]

theorem State.closeProcessing_clock (s : State) (e : Nat) : (s.closeProcessing e).clock = s.clock :=
  (State.closeProcessing_touches s e).clock_eq

section
variable {e p : Nat} {l : List Nat} {s u : State}

/-- A page that no page before it names is as it was when close processing comes to it. -/
theorem Judged.page_new (h : Judged e l s u) (hnew : p ∉ l) : u.page p = s.page p :=
  (h.page p).trans (if_neg fun c => hnew (mem_of_mem_takenAmong c))

/-- R65: so are the stories placed on it. -/
theorem Judged.story_new (h : Judged e l s u) (hplaced : PlacementsRight s) (hl : ∀ q ∈ l, q ≤ 95) (hp : p ≤ 95)
    (hnew : p ∉ l) {n : Nat} (hn : n ∈ s.placedOn p) : u.story n = s.story n := by
  refine (h.story n).trans (if_neg fun c => ?_)
  obtain ⟨q, hq, hnq⟩ := List.mem_flatMap.mp c
  have hql : q ∈ l := mem_of_mem_takenAmong (List.mem_filter.mp hq).1
  exact hnew (hplaced.page_unique hp (hl q hql) hn hnq ▸ hql)

/-- R60: a page in another state or of another edition is passed by. -/
theorem Judged.pass (h : Judged e l s u) (htaken : ¬((s.page p).state = .makeup ∧ (s.page p).edition = e)) :
    Judged e (l ++ [p]) s u := by
  have htaken : takenAmong s e (l ++ [p]) = takenAmong s e l := by
    rw [takenAmong_concat, if_neg htaken, List.append_nil]
  have hready : readyAmong s e (l ++ [p]) = readyAmong s e l := by rw [readyAmong, htaken, readyAmong]
  have hqueued : queuedAmong s e (l ++ [p]) = queuedAmong s e l := by rw [queuedAmong, hready, queuedAmong]
  have hlate : lateNotices s e (l ++ [p]) = lateNotices s e l := by rw [lateNotices, htaken, lateNotices]
  exact ⟨htaken ▸ h.page, hready ▸ h.sendQueue, hqueued ▸ h.story, hqueued ▸ h.basket, hlate ▸ h.notices⟩

/-- R61: a page that qualifies is released. -/
theorem Judged.release (h : Judged e l s u) (hplaced : PlacementsRight s) (hp : p ≤ 95) (hpage : u.page p = s.page p)
    (hstory : ∀ n ∈ s.placedOn p, u.story n = s.story n)
    (htaken : (s.page p).state = .makeup ∧ (s.page p).edition = e) (hr : pageReady s p = true) :
    Judged e (l ++ [p]) s (u.releasePage p) := by
  have hon : u.placedOn p = s.placedOn p := by rw [State.placedOn, hpage, State.placedOn]
  have hvalid : ∀ n ∈ u.placedOn p, 1 ≤ n ∧ n ≤ 511 := fun n hn => hplaced.valid_of_placedOn hp (hon ▸ hn)
  have hbaskets (b : Nat) : (u.placedOn p).filter (fun n => (u.story n).basket == b)
      = (s.placedOn p).filter (fun n => (s.story n).basket == b) := by
    rw [hon]
    exact List.filter_congr fun n hn => by rw [hstory n hn]
  have htaken : takenAmong s e (l ++ [p]) = takenAmong s e l ++ [p] := by rw [takenAmong_concat, if_pos htaken]
  have hready : readyAmong s e (l ++ [p]) = readyAmong s e l ++ [p] := by simp [readyAmong, htaken, hr]
  have hqueued : queuedAmong s e (l ++ [p]) = queuedAmong s e l ++ s.placedOn p := by simp [queuedAmong, hready]
  have hlate : lateNotices s e (l ++ [p]) = lateNotices s e l := by simp [lateNotices, htaken, hr]
  refine ⟨fun k => ?_, ?_, fun n => ?_, fun b => ?_, ?_⟩
  · rw [State.page_releasePage _ hp, hpage, h.page k, htaken]
    by_cases hk : p = k
    · subst hk
      simp [Page.judged, hr]
    · simp [hk, Ne.symm hk]
  · rw [State.sendQueue_releasePage, h.sendQueue, hready, List.append_assoc]
  · rw [State.story_releasePage hvalid, hon, hqueued]
    by_cases hn : n ∈ s.placedOn p
    · simp [hn, hstory n hn]
    · simp [hn, h.story n]
  · rw [State.basket_releasePage hvalid (hon ▸ hplaced.placedOn_nodup hp), hbaskets, h.basket b, hqueued,
      List.filter_append, List.foldl_append]
  · rw [(State.releasePage_touches ..).notices_eq, h.notices, hlate]

/-- R61: any other page that is taken becomes LATE with a notice. -/
theorem Judged.late (h : Judged e l s u) (htime : u.clock.time = s.clock.time) (hp : p ≤ 95)
    (hpage : u.page p = s.page p) (hstory : ∀ n ∈ s.placedOn p, u.story n = s.story n)
    (htaken : (s.page p).state = .makeup ∧ (s.page p).edition = e) (hr : ¬pageReady s p = true) :
    Judged e (l ++ [p]) s ((u.setPage p { s.page p with state := .late }).notify (lateNotice u e p)) := by
  have htaken : takenAmong s e (l ++ [p]) = takenAmong s e l ++ [p] := by rw [takenAmong_concat, if_pos htaken]
  have hready : readyAmong s e (l ++ [p]) = readyAmong s e l := by simp [readyAmong, htaken, hr]
  have hqueued : queuedAmong s e (l ++ [p]) = queuedAmong s e l := by rw [queuedAmong, hready, queuedAmong]
  have hlate : lateNotices s e (l ++ [p]) = lateNotices s e l ++ [lateNotice s e p] := by
    simp [lateNotices, htaken, hr]
  refine ⟨fun k => ?_, ?_, fun n => ?_, fun b => ?_, ?_⟩
  · rw [State.page_of_pages (State.notify_pages ..), State.page_setPage, h.page k, htaken]
    by_cases hk : p = k
    · subst hk
      simp [Page.judged, hr, show p < 96 by omega]
    · simp [hk, Ne.symm hk]
  · rw [State.notify_sendQueue, State.setPage_sendQueue, h.sendQueue, hready]
  · rw [State.story_of_stories (State.notify_stories ..), State.story_setPage, h.story n, hqueued]
  · rw [State.basket_of_baskets (State.notify_baskets ..), State.basket_setPage, h.basket b, hqueued]
  · rw [State.notices_notify, State.setPage_notices, h.notices, hlate, List.foldl_append,
      lateNotice_congr htime hpage hstory]
    rfl

/-- R60: one more page is judged, on the records that the pages before it left. -/
theorem Judged.concat (h : Judged e l s u) (hplaced : PlacementsRight s) (htime : u.clock.time = s.clock.time)
    (hl : ∀ q ∈ l, q ≤ 95) (hp : p ≤ 95) (hnew : p ∉ l) : Judged e (l ++ [p]) s (u.judgePage e p) := by
  have hpage : u.page p = s.page p := h.page_new hnew
  have hstory (n : Nat) (hn : n ∈ s.placedOn p) : u.story n = s.story n := h.story_new hplaced hl hp hnew hn
  unfold State.judgePage
  rw [hpage, u.qualifies_eq p, pageReady_congr hpage hstory]
  by_cases htaken : (s.page p).state = .makeup ∧ (s.page p).edition = e
  · rw [if_pos htaken]
    by_cases hr : pageReady s p = true
    · rw [if_pos hr]
      exact h.release hplaced hp hpage hstory htaken hr
    · rw [if_neg hr]
      exact h.late htime hp hpage hstory htaken hr
  · rw [if_neg htaken]
    exact h.pass htaken

end

/-- Where the pages `before` have been judged, the pages `l` follow. -/
theorem Judged.foldl {e : Nat} {before l : List Nat} {s u : State} (h : Judged e before s u) (hplaced : PlacementsRight s)
    (htime : u.clock.time = s.clock.time) (hnodup : (before ++ l).Nodup) (hpages : ∀ p ∈ before ++ l, p ≤ 95) :
    Judged e (before ++ l) s (l.foldl (State.judgePage e) u) := by
  induction l generalizing before u with
  | nil => rwa [List.append_nil]
  | cons p l ih =>
    have hnew : p ∉ before := fun c => (List.nodup_append.mp hnodup).2.2 p c p List.mem_cons_self rfl
    have hbefore (q : Nat) (hq : q ∈ before) : q ≤ 95 := hpages q (List.mem_append_left _ hq)
    have hp : p ≤ 95 := hpages p (List.mem_append_right _ List.mem_cons_self)
    have htime' : (u.judgePage e p).clock.time = s.clock.time := by
      rw [(State.judgePage_touches e u p).clock_eq, htime]
    rw [List.append_cons] at hnodup hpages ⊢
    exact ih (h.concat hplaced htime hbefore hp hnew) htime' hnodup hpages

theorem State.closeProcessing_judged {s : State} (hplaced : PlacementsRight s) (e : Nat) :
    Judged e pageIndices s (s.closeProcessing e) := by
  have hnodup : pageIndices.Nodup := List.nodup_range
  have hpages (p : Nat) (hp : p ∈ pageIndices) : p ≤ 95 := Nat.le_of_lt_succ (List.mem_range.mp hp)
  rw [← List.nil_append pageIndices] at hnodup hpages
  exact (Judged.nil e s).foldl hplaced rfl hnodup hpages

/-- R55, R56: the CLOSED notice of edition `e`. -/
def closedNotice (s : State) (e : Nat) : Notice :=
  { kind := .closed, terminal := none, page := none, cause := .noCause, story := 0, unit := some e, graceCount := 0,
    time := s.clock.time, graceEnd := 0 }

theorem closeNotices_eq (s : State) (e : Nat) :
    closeNotices s e = lateNotices s e pageIndices ++ [closedNotice s e] := rfl

/-- R55, R56: the close of an edition is its close processing, with CLOSED and its notice after it. -/
theorem State.closeEdition_eq (s : State) (e : Nat) : s.closeEdition e
    = ((s.closeProcessing e).setEdition e { s.edition e with state := .closed }).notify (closedNotice s e) := by
  have hclock := State.closeProcessing_clock s e
  have hnotice : ({ (s.closeProcessing e).notice .closed .noCause with unit := some e } : Notice)
      = closedNotice s e := by
    rw [State.notice, hclock, closedNotice]
  unfold State.closeEdition
  dsimp only
  rw [hnotice, State.edition_of_clock hclock]

theorem State.closeEdition_closed {s : State} (hplaced : PlacementsRight s) (e : Nat) :
    Closed e s (s.closeEdition e) := by
  have hjudged := State.closeProcessing_judged hplaced e
  rw [State.closeEdition_eq]
  refine ⟨fun p => ?_, ?_, fun n => ?_, fun b => ?_, ?_⟩
  · rw [State.page_of_pages (State.notify_pages ..), State.page_of_pages (State.setEdition_pages ..)]
    exact hjudged.page p
  · rw [State.notify_sendQueue, State.setEdition_sendQueue]
    exact hjudged.sendQueue
  · rw [State.story_of_stories (State.notify_stories ..), State.story_of_stories (State.setEdition_stories ..)]
    exact hjudged.story n
  · rw [State.basket_of_baskets (State.notify_baskets ..), State.basket_of_baskets (State.setEdition_baskets ..)]
    exact hjudged.basket b
  · rw [State.notices_notify, State.setEdition_notices, hjudged.notices, State.notices_notifyAll, closeNotices_eq,
      List.foldl_append, List.foldl_cons, List.foldl_nil]

end Sys2Proof.Machine

/-! ## The statements of an evaluation rest on the tables and the time alone -/

namespace Sys2Proof.Machine

section
variable {e : Nat} {s a t u : State}

theorem SameTables.page (h : SameTables s a) (p : Nat) : a.page p = s.page p := State.page_of_pages h.pages p

theorem SameTables.story (h : SameTables s a) (n : Nat) : a.story n = s.story n := State.story_of_stories h.stories n

theorem SameTables.basket (h : SameTables s a) (b : Nat) : a.basket b = s.basket b :=
  State.basket_of_baskets h.baskets b

theorem SameTables.takenPages (h : SameTables s a) (e : Nat) : takenPages a e = takenPages s e :=
  List.filter_congr fun p _ => by rw [h.page]

theorem SameTables.pageReady (h : SameTables s a) : pageReady a = pageReady s :=
  funext fun p => pageReady_congr (h.page p) fun n _ => h.story n

theorem SameTables.lateNotices (h : SameTables s a) (e : Nat) (l : List Nat) :
    lateNotices a e l = lateNotices s e l := by
  have htaken : takenAmong a e l = takenAmong s e l := List.filter_congr fun p _ => by rw [h.page]
  have hlate : lateNotice a e = lateNotice s e :=
    funext fun p => lateNotice_congr h.time (h.page p) fun n _ => h.story n
  rw [Machine.lateNotices, htaken, h.pageReady, hlate, Machine.lateNotices]

theorem SameTables.closeNotices (h : SameTables s a) (e : Nat) : closeNotices a e = closeNotices s e := by
  rw [closeNotices_eq, h.lateNotices, closedNotice, h.time, closeNotices_eq, closedNotice]

theorem SameTables.placementsRight (h : SameTables s a) (hs : PlacementsRight s) : PlacementsRight a :=
  hs.congr h.page fun n => by rw [h.story]; exact ⟨rfl, rfl⟩

theorem Closed.congr (h : Closed e a u) (hs : SameTables s a) (ht : SameTables u t) : Closed e s t := by
  obtain ⟨hpage, hqueue, hstory, hbasket, hnotices⟩ := h
  have hplaced : (fun p => (a.page p).placements.map (·.story)) = fun p => (s.page p).placements.map (·.story) :=
    funext fun p => by rw [hs.page]
  rw [hs.takenPages, hs.pageReady] at hqueue
  rw [hs.takenPages, hs.pageReady, hplaced] at hstory hbasket
  simp only [hs.takenPages, hs.pageReady, hs.page] at hpage
  simp only [hs.story] at hstory hbasket
  simp only [hs.basket] at hbasket
  rw [State.notices_notifyAll, hs.closeNotices, hs.notices] at hnotices
  refine ⟨fun p => (ht.page p).trans (hpage p), ht.sendQueue.trans (hqueue.trans (by rw [hs.sendQueue])),
    fun n => (ht.story n).trans (hstory n), fun b => (ht.basket b).trans (hbasket b), ?_⟩
  rw [State.notices_notifyAll, ht.notices, hnotices]

/-- What an evaluation does rests, of the states, on their tables, and of the record that it begins with, on whether it is
CLOSED and on its grace count. -/
theorem EvaluationDoes.congr {r q r' : Edition} (h : EvaluationDoes e q r' a u) (hs : SameTables s a)
    (ht : SameTables u t) (hstate : q.state = .closed ↔ r.state = .closed) (hcount : q.graceCount = r.graceCount) :
    EvaluationDoes e r r' s t := by
  obtain ⟨hcloses, hstays⟩ := h
  rw [ne_eq, hstate, hcount] at *
  refine ⟨fun hc => (hcloses hc).congr hs ht, fun hc => ?_⟩
  obtain ⟨hpages, hqueue, hstories, hbaskets, hnotices⟩ := hstays hc
  refine ⟨ht.pages.trans (hpages.trans hs.pages), ht.sendQueue.trans (hqueue.trans hs.sendQueue),
    ht.stories.trans (hstories.trans hs.stories), ht.baskets.trans (hbaskets.trans hs.baskets),
    ht.notices.trans (hnotices.trans ?_)⟩
  rw [State.notices_notify, State.notices_notify, hs.notices, graceNotice, hs.time, graceNotice]

/-- R65: close processing moves no placement, and makes no story FREE or KILLED. -/
theorem Closed.placementsRight (h : Closed e s t) (hs : PlacementsRight s) : PlacementsRight t := by
  obtain ⟨hpage, -, hstory, -, -⟩ := h
  have hplacements (p : Nat) : (t.page p).placements = (s.page p).placements := by
    rw [hpage]
    split <;> rfl
  have hplacement (n : Nat) : (t.story n).placement = (s.story n).placement := by
    rw [hstory]
    split <;> rfl
  obtain ⟨hlisted, hplaced, hoff⟩ := hs
  refine ⟨fun p i hp q hq => ?_, fun n p i hn => ?_, fun n hn => ?_⟩
  · rw [hplacement]
    exact hlisted p i hp q (hplacements p ▸ hq)
  · rw [hplacements]
    exact hplaced n p i (hplacement n ▸ hn)
  · rw [hplacement]
    refine hoff n ?_
    rw [hstory] at hn
    split at hn
    · exact absurd hn (by simp)
    · exact hn

theorem EvaluationDoes.placementsRight {r r' : Edition} (h : EvaluationDoes e r r' s t) (hs : PlacementsRight s) :
    PlacementsRight t := by
  obtain ⟨hcloses, hstays⟩ := h
  by_cases hc : r.state ≠ .closed ∧ r'.state = .closed
  · exact (hcloses hc).placementsRight hs
  · obtain ⟨hpages, -, hstories, -, -⟩ := hstays hc
    refine hs.congr (State.page_of_pages hpages) fun n => ?_
    rw [State.story_of_stories hstories]
    exact ⟨rfl, rfl⟩

end

end Sys2Proof.Machine

/-! ## The evaluation of one edition (R53 to R56) -/

namespace Sys2Proof.Machine

/-- R55, R56: how the close step and the grace-end step end for edition `e` in `s`: the state and the record of `e` that
they leave. -/
inductive Concluded (e : Nat) (s : State) : State → Edition → Prop
  /-- No time has come. -/
  | waits : Concluded e s s (s.edition e)
  /-- A grace window begins; `r` is the record with the hold used up. -/
  | window (r : Edition) (hs : (s.edition e).scheduled = true) (hcount : r.graceCount = (s.edition e).graceCount) :
    Concluded e s (s.beginWindow e r) (r.window s.clock.time s.clock.grace)
  /-- The edition closes. -/
  | closes (hs : (s.edition e).scheduled = true) (hopen : (s.edition e).state ≠ .closed) :
    Concluded e s (s.closeEdition e) { s.edition e with state := .closed }

section
variable {e : Nat} {s t : State} {r' : Edition}

theorem State.beginWindow_eq (s : State) (e : Nat) (r : Edition) : s.beginWindow e r
    = (s.setEdition e (r.window s.clock.time s.clock.grace)).notify
        (graceNotice s e (r.window s.clock.time s.clock.grace)) := rfl

theorem Concluded.timeKept (h : Concluded e s t r') : TimeKept s t := by
  cases h with
  | waits => exact .of_clock rfl
  | window r =>
    rw [State.beginWindow_eq]
    exact (State.setEdition_timeKept ..).trans (.of_clock (State.notify_clock ..))
  | closes =>
    rw [State.closeEdition_eq]
    exact ((TimeKept.of_clock (State.closeProcessing_clock s e)).trans (State.setEdition_timeKept ..)).trans
      (.of_clock (State.notify_clock ..))

theorem Concluded.edition (h : Concluded e s t r') (d : Nat) : t.edition d = if e = d then r' else s.edition d := by
  cases h with
  | waits =>
    split
    · next hd => rw [hd]
    · rfl
  | window r hs =>
    rw [State.beginWindow_eq, State.edition_of_clock (State.notify_clock ..), State.edition_setEdition]
    simp only [State.valid_of_scheduled hs, and_self, and_true]
  | closes hs =>
    rw [State.closeEdition_eq, State.edition_of_clock (State.notify_clock ..), State.edition_setEdition,
      State.edition_of_clock (State.closeProcessing_clock s e)]
    simp only [State.valid_of_scheduled hs, and_self, and_true]

/-- A grace window opens with its notice, and a close is close processing; nothing else happens to the tables. -/
theorem Concluded.does (h : Concluded e s t r') (hplaced : PlacementsRight s) :
    EvaluationDoes e (s.edition e) r' s t := by
  cases h with
  | waits => exact ⟨fun hc => absurd hc.2 hc.1, fun _ => ⟨rfl, rfl, rfl, rfl, by rw [if_pos rfl]⟩⟩
  | window r _ hcount =>
    refine ⟨fun hc => EditionState.noConfusion hc.2, fun _ => ?_⟩
    have hmore : ¬(r.window s.clock.time s.clock.grace).graceCount = (s.edition e).graceCount := by
      rw [← hcount]
      exact Nat.succ_ne_self _
    rw [State.beginWindow_eq, if_neg hmore]
    refine ⟨?_, ?_, ?_, ?_, ?_⟩
    · rw [State.notify_pages, State.setEdition_pages]
    · rw [State.notify_sendQueue, State.setEdition_sendQueue]
    · rw [State.notify_stories, State.setEdition_stories]
    · rw [State.notify_baskets, State.setEdition_baskets]
    · rw [State.notices_notify, State.notices_notify, State.setEdition_notices]
  | closes _ hopen =>
    exact ⟨fun _ => State.closeEdition_closed hplaced e, fun hc => absurd ⟨hopen, rfl⟩ hc⟩

end

/-- R54: the lockout step has taken `s` to `s'`. -/
def LockedOut (e : Nat) (s s' : State) : Prop :=
  s' = s ∨ s' = s.setEdition e { s.edition e with state := .lockout } ∧ (s.edition e).state = .opened
    ∧ (s.edition e).scheduled = true

theorem State.lockoutStep_early {s : State} {e : Nat}
    (h : ¬((s.edition e).state = .opened ∧ (s.edition e).lockout ≤ s.clock.time)) :
    s.lockoutStep e = s := if_neg h

theorem State.closeStep_early {s : State} {e : Nat}
    (h : ¬((s.edition e).state = .lockout ∧ (s.edition e).close ≤ s.clock.time)) :
    s.closeStep e = s := if_neg h

/-- R55: the close step of an edition in LOCKOUT. -/
theorem State.closeStep_concluded {s : State} {e : Nat} (hs : (s.edition e).scheduled = true)
    (h : (s.edition e).state = .lockout) :
    Concluded e s (s.closeStep e) ((s.edition e).atClose s.clock.time s.clock.grace) := by
  unfold Edition.atClose
  by_cases htime : s.clock.time < (s.edition e).close
  · rw [if_pos htime, State.closeStep_early fun c => Nat.not_le_of_lt htime c.2]
    exact .waits
  · unfold State.closeStep
    rw [if_neg htime]
    dsimp only
    rw [if_pos ⟨h, Nat.le_of_not_lt htime⟩]
    by_cases harmed : (s.edition e).armed = true
    · rw [if_pos harmed, if_pos harmed]
      exact .window _ hs rfl
    · rw [if_neg harmed, if_neg harmed]
      exact .closes hs (by rw [h]; decide)

/-- R56: the grace-end step of an edition in GRACE. -/
theorem State.graceEndStep_concluded {s : State} {e : Nat} (hs : (s.edition e).scheduled = true)
    (h : (s.edition e).state = .grace) :
    Concluded e s (s.graceEndStep e) ((s.edition e).evaluated s.clock.time s.clock.grace) := by
  unfold Edition.evaluated
  rw [if_neg (by simp [hs]), h]
  dsimp only
  by_cases htime : s.clock.time < (s.edition e).graceEnd
  · have hearly : s.graceEndStep e = s := if_neg fun c => Nat.not_le_of_lt htime c.2
    rw [if_pos htime, hearly]
    exact .waits
  · unfold State.graceEndStep
    rw [if_neg htime]
    dsimp only
    rw [if_pos ⟨h, Nat.le_of_not_lt htime⟩]
    by_cases hlatched : (s.edition e).latched = true
    · rw [if_pos hlatched, if_pos hlatched]
      exact .window _ hs rfl
    · rw [if_neg hlatched, if_neg hlatched]
      exact .closes hs (by rw [h]; decide)

/-- R53: an evaluation is a lockout step and an end as `Concluded` says, with the record that `Edition.evaluated` gives. -/
theorem State.evaluate_concluded (s : State) (e : Nat) : ∃ s0, LockedOut e s s0
    ∧ Concluded e s0 (s.evaluate e) ((s.edition e).evaluated s.clock.time s.clock.grace) := by
  have hstay : Concluded e s s (s.edition e) := .waits
  unfold State.evaluate
  by_cases hs : (s.edition e).scheduled = true
  case neg =>
    refine ⟨s, .inl rfl, ?_⟩
    rw [if_neg hs, Edition.evaluated, if_pos (by simpa using hs)]
    exact hstay
  rw [if_pos hs]
  dsimp only
  cases h : (s.edition e).state with
  | opened =>
    rw [if_neg (by decide), Edition.evaluated, if_neg (by simp [hs]), h]
    dsimp only
    by_cases htime : s.clock.time < (s.edition e).lockout
    · refine ⟨s, .inl rfl, ?_⟩
      rw [if_pos htime, State.lockoutStep_early fun c => Nat.not_le_of_lt htime c.2,
        State.closeStep_early fun c => by simp [h] at c]
      exact hstay
    · have hlocked : s.lockoutStep e = s.setEdition e { s.edition e with state := .lockout } :=
        if_pos ⟨h, Nat.le_of_not_lt htime⟩
      have hself := s.edition_setEdition_self { s.edition e with state := .lockout } (State.valid_of_scheduled hs)
      obtain ⟨hclock, -, hgrace⟩ := s.setEdition_timeKept e { s.edition e with state := .lockout }
      refine ⟨_, .inr ⟨rfl, h, hs⟩, ?_⟩
      have hend := State.closeStep_concluded (s := s.setEdition e { s.edition e with state := .lockout }) (e := e)
        (by rw [hself]; exact hs) (by rw [hself])
      rw [hself, hclock, hgrace] at hend
      rw [if_neg htime, hlocked]
      exact hend
  | lockout =>
    refine ⟨s, .inl rfl, ?_⟩
    rw [if_neg (by decide), State.lockoutStep_early fun c => by simp [h] at c, Edition.evaluated,
      if_neg (by simp [hs]), h]
    exact State.closeStep_concluded hs h
  | grace =>
    refine ⟨s, .inl rfl, ?_⟩
    rw [if_pos rfl, State.lockoutStep_early fun c => by simp [h] at c, State.closeStep_early fun c => by simp [h] at c]
    exact State.graceEndStep_concluded hs h
  | closed =>
    refine ⟨s, .inl rfl, ?_⟩
    rw [if_neg (by decide), State.lockoutStep_early fun c => by simp [h] at c,
      State.closeStep_early fun c => by simp [h] at c, Edition.evaluated, if_neg (by simp [hs]), h]
    exact hstay

section
variable {e : Nat} {s s' : State}

theorem LockedOut.timeKept (h : LockedOut e s s') : TimeKept s s' := by
  rcases h with rfl | ⟨rfl, -, -⟩
  · exact .of_clock rfl
  · exact State.setEdition_timeKept ..

theorem LockedOut.sameTables (h : LockedOut e s s') : SameTables s s' := by
  rcases h with rfl | ⟨rfl, -, -⟩
  · exact .refl s'
  · exact State.setEdition_sameTables ..

theorem LockedOut.edition_ne (h : LockedOut e s s') {d : Nat} (hd : d ≠ e) : s'.edition d = s.edition d := by
  rcases h with rfl | ⟨rfl, -, -⟩
  · rfl
  · exact State.edition_setEdition_ne _ _ hd

/-- R54: the lockout step neither closes an edition nor counts a grace window. -/
theorem LockedOut.edition_self (h : LockedOut e s s') :
    ((s'.edition e).state = .closed ↔ (s.edition e).state = .closed)
      ∧ (s'.edition e).graceCount = (s.edition e).graceCount := by
  rcases h with rfl | ⟨rfl, hopen, hs⟩
  · exact ⟨Iff.rfl, rfl⟩
  · rw [State.edition_setEdition_self _ _ (State.valid_of_scheduled hs), hopen]
    simp

end

theorem State.evaluate_timeKept (s : State) (e : Nat) : TimeKept s (s.evaluate e) := by
  obtain ⟨s0, hlocked, hend⟩ := s.evaluate_concluded e
  exact hlocked.timeKept.trans hend.timeKept

/-- R53: an evaluation gives its edition the record that R54 to R56 say, and no other edition another one. -/
theorem State.edition_evaluate (s : State) (e d : Nat) : (s.evaluate e).edition d
    = if e = d then (s.edition e).evaluated s.clock.time s.clock.grace else s.edition d := by
  obtain ⟨s0, hlocked, hend⟩ := s.evaluate_concluded e
  rw [hend.edition]
  by_cases hd : e = d
  · rw [if_pos hd, if_pos hd]
  · rw [if_neg hd, if_neg hd, hlocked.edition_ne (Ne.symm hd)]

/-- R54 to R56, R60, R61: what an evaluation does to the tables and hands over. -/
theorem State.evaluate_does {s : State} (hplaced : PlacementsRight s) (e : Nat) :
    EvaluationDoes e (s.edition e) ((s.evaluate e).edition e) s (s.evaluate e) := by
  obtain ⟨s0, hlocked, hend⟩ := s.evaluate_concluded e
  obtain ⟨hstate, hcount⟩ := hlocked.edition_self
  rw [s.edition_evaluate, if_pos rfl]
  exact (hend.does (hlocked.sameTables.placementsRight hplaced)).congr hlocked.sameTables (.refl _) hstate hcount

end Sys2Proof.Machine

/-! ## The evaluations of one advance or setting (R53, log entry 4) -/

namespace Sys2Proof.Machine

/-- R53: the composition of the status rows that ends an evaluation changes no record of the clock and no table. -/
theorem State.evaluateEvent_sameRecords (s : State) (e : Nat) : SameRecords (s.evaluate e) (s.evaluateEvent e) :=
  .of_touches (State.compose_touches ..)

theorem State.evaluateEvent_timeKept (s : State) (e : Nat) : TimeKept s (s.evaluateEvent e) :=
  (s.evaluate_timeKept e).trans (.of_clock (State.compose_clock ..))

theorem State.edition_evaluateEvent (s : State) (e d : Nat) : (s.evaluateEvent e).edition d
    = if e = d then (s.edition e).evaluated s.clock.time s.clock.grace else s.edition d :=
  ((s.evaluateEvent_sameRecords e).edition d).trans (s.edition_evaluate e d)

theorem State.evaluateEvent_rows (s : State) (e : Nat) : StatusRowsOnly s (s.evaluateEvent e) :=
  (StatusRowsOnly.of_terms (State.evaluate_touches s e).terms_eq).trans (State.compose_rows s _ false)

theorem State.evaluateEvents_timeKept (l : List Nat) (s : State) : TimeKept s (l.foldl State.evaluateEvent s) := by
  induction l generalizing s with
  | nil => exact .of_clock rfl
  | cons e l ih => exact (s.evaluateEvent_timeKept e).trans (ih _)

theorem State.evaluateEvents_rows (l : List Nat) (s : State) : StatusRowsOnly s (l.foldl State.evaluateEvent s) := by
  induction l generalizing s with
  | nil => exact .refl s
  | cons e l ih => exact (s.evaluateEvent_rows e).trans (ih _)

/-- R53: each edition of the list is evaluated once, by its own record. -/
theorem State.edition_evaluateEvents {l : List Nat} (hl : l.Nodup) (s : State) (d : Nat) :
    (l.foldl State.evaluateEvent s).edition d
      = if d ∈ l then (s.edition d).evaluated s.clock.time s.clock.grace else s.edition d := by
  induction l generalizing s with
  | nil => rfl
  | cons e l ih =>
    obtain ⟨hnew, hl⟩ := List.nodup_cons.mp hl
    obtain ⟨htime, -, hgrace⟩ := s.evaluateEvent_timeKept e
    rw [List.foldl_cons, ih hl, s.edition_evaluateEvent, htime, hgrace]
    by_cases hd : e = d
    · subst hd
      simp [hnew]
    · simp [hd, Ne.symm hd]

theorem State.due_congr {s t : State} {e : Nat} (he : t.edition e = s.edition e)
    (htime : t.clock.time = s.clock.time) : t.due e = s.due e := by
  unfold State.due
  rw [he, htime]

/-- An edition with no step to make is evaluated without a change. -/
theorem State.evaluate_of_not_due {s : State} {e : Nat} (h : s.due e = false) : s.evaluate e = s := by
  unfold State.due at h
  unfold State.evaluate
  by_cases hs : (s.edition e).scheduled = true
  case neg => rw [if_neg hs]
  simp only [hs, Bool.true_and] at h
  rw [if_pos hs]
  cases hstate : (s.edition e).state with
  | opened =>
    have htime : ¬(s.edition e).lockout ≤ s.clock.time := by simpa [hstate] using h
    rw [if_neg (by decide), State.lockoutStep_early fun c => htime c.2,
      State.closeStep_early fun c => by simp [hstate] at c]
  | lockout =>
    have htime : ¬(s.edition e).close ≤ s.clock.time := by simpa [hstate] using h
    rw [if_neg (by decide), State.lockoutStep_early fun c => by simp [hstate] at c,
      State.closeStep_early fun c => htime c.2]
  | grace =>
    have htime : ¬(s.edition e).graceEnd ≤ s.clock.time := by simpa [hstate] using h
    rw [if_pos rfl, State.lockoutStep_early fun c => by simp [hstate] at c,
      State.closeStep_early fun c => by simp [hstate] at c]
    exact if_neg fun c => htime c.2
  | closed =>
    rw [if_neg (by decide), State.lockoutStep_early fun c => by simp [hstate] at c,
      State.closeStep_early fun c => by simp [hstate] at c]

theorem State.evaluateEvents_of_not_due {l : List Nat} {s : State} (h : ∀ e ∈ l, s.due e = false) :
    l.foldl State.evaluateEvent s = s := by
  induction l with
  | nil => rfl
  | cons e l ih =>
    have he : s.evaluateEvent e = s := by
      rw [State.evaluateEvent, State.evaluate_of_not_due (h e List.mem_cons_self), State.compose_self]
    rw [List.foldl_cons, he, ih fun d hd => h d (List.mem_cons_of_mem e hd)]

theorem getD_cons_eraseIdx_perm {l : List Nat} {i : Nat} (h : i < l.length) :
    (l.getD i 0 :: l.eraseIdx i).Perm l := by
  induction l generalizing i with
  | nil => cases h
  | cons x xs ih =>
    cases i with
    | zero => exact .refl _
    | succ i =>
      rw [List.getD_cons_succ, List.eraseIdx_cons_succ]
      exact (List.Perm.swap ..).trans ((ih (Nat.lt_of_succ_lt_succ h)).cons x)

/-- Every number names an order of the whole list. -/
theorem orderOf_perm {k : Nat} (code : Nat) {l : List Nat} (h : l.length = k) : (orderOf k code l).Perm l := by
  induction k generalizing code l with
  | zero => rw [List.length_eq_zero_iff.mp h]; exact .nil
  | succ k ih =>
    cases l with
    | nil => cases h
    | cons x xs =>
      have hi : code % (x :: xs).length < (x :: xs).length := Nat.mod_lt _ (Nat.zero_lt_succ _)
      have hrest : ((x :: xs).eraseIdx (code % (x :: xs).length)).length = k := by
        rw [List.length_eraseIdx_of_lt hi, h, Nat.add_sub_cancel]
      exact ((ih _ hrest).cons _).trans (getD_cons_eraseIdx_perm hi)

/-- Where the editions that are due are evaluated in some order, all four are: the others have no step to make. -/
theorem State.evaluateEvents_due {s a : State} {order : List Nat} (ha : SameRecords s a)
    (h : order.Perm (editionNumbers.filter s.due)) : ∃ all : List Nat, all.Perm editionNumbers
      ∧ all.foldl State.evaluateEvent a = order.foldl State.evaluateEvent a := by
  let rest := editionNumbers.filter fun e => !s.due e
  refine ⟨order ++ rest, (h.append_right rest).trans (List.filter_append_perm s.due editionNumbers), ?_⟩
  have hnodup : order.Nodup := h.nodup_iff.mpr (List.Pairwise.filter _ List.nodup_range')
  rw [List.foldl_append]
  refine State.evaluateEvents_of_not_due fun e he => ?_
  obtain ⟨-, hidle⟩ := List.mem_filter.mp he
  simp only [Bool.not_eq_true'] at hidle
  have hout : e ∉ order := fun c => by
    obtain ⟨-, hdue⟩ := List.mem_filter.mp (h.mem_iff.mp c)
    rw [hidle] at hdue
    cases hdue
  rw [← hidle]
  refine State.due_congr ?_ ((State.evaluateEvents_timeKept ..).1.trans ha.time)
  rw [State.edition_evaluateEvents hnodup, if_neg hout, ha.edition]

/-- R53: all four editions are evaluated one after another, in an order that a free value may give. -/
theorem State.evaluateAll_eq (s : State) : ∃ (order : List Nat) (a : State), order.Perm editionNumbers
    ∧ (a = s ∨ a = s.withFree (s.free + 1)) ∧ s.evaluateAll = order.foldl State.evaluateEvent a := by
  have hsame : SameRecords s s := .of_touches (Touches.refl [] s)
  have hfree : SameRecords s (s.withFree (s.free + 1)) := .of_touches (State.withFree_touches ..)
  unfold State.evaluateAll
  split
  · next h =>
    obtain ⟨all, hall, heq⟩ := State.evaluateEvents_due (order := []) hsame (by rw [h])
    exact ⟨all, s, hall, .inl rfl, heq.symm⟩
  · next e h =>
    obtain ⟨all, hall, heq⟩ := State.evaluateEvents_due (order := [e]) hsame (by rw [h])
    exact ⟨all, s, hall, .inl rfl, heq.symm⟩
  · obtain ⟨all, hall, heq⟩ := State.evaluateEvents_due hfree (orderOf_perm (Config.editionOrder s.free) rfl)
    exact ⟨all, _, hall, .inr rfl, heq.symm⟩

theorem State.evaluateAll_timeKept (s : State) : TimeKept s s.evaluateAll := by
  obtain ⟨order, a, -, rfl | rfl, h⟩ := s.evaluateAll_eq
  · exact h ▸ State.evaluateEvents_timeKept order a
  · exact h ▸ State.evaluateEvents_timeKept order _

theorem State.evaluateAll_rows (s : State) : StatusRowsOnly s s.evaluateAll := by
  obtain ⟨order, a, -, rfl | rfl, h⟩ := s.evaluateAll_eq
  · exact h ▸ State.evaluateEvents_rows order a
  · exact h ▸ State.evaluateEvents_rows order _

theorem State.edition_evaluateAll (s : State) {e : Nat} (he : validEdition e = true) :
    s.evaluateAll.edition e = (s.edition e).evaluated s.clock.time s.clock.grace := by
  obtain ⟨order, a, hperm, ha, h⟩ := s.evaluateAll_eq
  have hmem : e ∈ order := by
    have he := validEdition_eq_true.mp he
    rw [hperm.mem_iff, editionNumbers, List.mem_range'_1]
    omega
  have hnodup : order.Nodup := hperm.nodup_iff.mpr List.nodup_range'
  rw [h, State.edition_evaluateEvents hnodup, if_pos hmem]
  rcases ha with rfl | rfl <;> rfl

/-- Evaluations made in turn are what `EvaluatedInTurn` says, seen from any states with the same records at both ends. -/
theorem evaluatedInTurn_foldl {l : List Nat} {s a t : State} (hs : SameRecords s a)
    (ht : SameRecords (l.foldl State.evaluateEvent a) t) (hplaced : PlacementsRight s) : EvaluatedInTurn l s t := by
  induction l generalizing s a with
  | nil =>
    have h := hs.trans ht
    exact ⟨h.pages, h.sendQueue, h.stories, h.baskets, h.notices, h.edition⟩
  | cons e l ih =>
    have hplaced' : PlacementsRight a := hs.toSameTables.placementsRight hplaced
    have hdoes := State.evaluate_does hplaced' e
    have hevent := a.evaluateEvent_sameRecords e
    obtain ⟨htime, -, hgrace⟩ := a.evaluateEvent_timeKept e
    refine ⟨a.evaluateEvent e, htime.trans hs.time, hgrace.trans hs.grace, ?_, fun d hd => ?_, ?_, ?_⟩
    · rw [a.edition_evaluateEvent, if_pos rfl, hs.edition, hs.time, hs.grace]
    · rw [a.edition_evaluateEvent, if_neg (Ne.symm hd), hs.edition]
    · rw [hevent.edition]
      exact hdoes.congr hs.toSameTables hevent.toSameTables (by rw [hs.edition]) (by rw [hs.edition])
    · exact ih (.of_touches (Touches.refl [] _)) ht
        (hevent.toSameTables.placementsRight (hdoes.placementsRight hplaced'))

/-- R53: the evaluations of an advance or a setting. -/
theorem State.evaluateAll_inTurn {s a t : State} (hs : SameRecords s a) (ht : SameRecords a.evaluateAll t)
    (hplaced : PlacementsRight s) : ∃ order : List Nat, order.Perm [1, 2, 3, 4] ∧ EvaluatedInTurn order s t := by
  obtain ⟨order, b, hperm, hb, h⟩ := a.evaluateAll_eq
  have hb : SameRecords a b := by
    rcases hb with rfl | rfl
    · exact .of_touches (Touches.refl [] b)
    · exact .of_touches (State.withFree_touches ..)
  exact ⟨order, hperm, evaluatedInTurn_foldl (hs.trans hb) (h ▸ ht) hplaced⟩

end Sys2Proof.Machine

/-! ## ADVANCE (R47, R48, R63, R126) and the period of REFCLK (R47) -/

namespace Sys2Proof.Machine

theorem State.edition_rollovers {l : List Nat} (hl : ∀ e ∈ l, 1 ≤ e ∧ e ≤ 4) (s : State) (d : Nat) :
    (l.foldl (fun s e => (s.setEdition e (s.edition e).rolledOver).mark (.edition e)) s).edition d
      = if d ∈ l then (s.edition d).rolled else s.edition d := by
  induction l generalizing s with
  | nil => rfl
  | cons e l ih =>
    rw [List.foldl_cons, ih fun k hk => hl k (List.mem_cons_of_mem e hk), State.edition_of_clock (State.mark_clock ..),
      State.edition_setEdition]
    simp only [hl e List.mem_cons_self, and_self, and_true]
    by_cases hd : e = d
    · subst hd
      simp only [if_true, List.mem_cons, true_or]
      split <;> rfl
    · simp [hd, Ne.symm hd]

/-- R48: each edition record is rolled over. -/
theorem State.edition_rollover (s : State) (d : Nat) : s.rollover.edition d = (s.edition d).rolled := by
  have hvalid (e : Nat) (he : e ∈ editionNumbers) : 1 ≤ e ∧ e ≤ 4 := by
    rw [editionNumbers, List.mem_range'_1] at he
    omega
  unfold State.rollover
  rw [State.edition_rollovers hvalid]
  split
  · rfl
  · next hd =>
    have hout : ¬(1 ≤ d ∧ d ≤ 4) := fun c => hd (by rw [editionNumbers, List.mem_range'_1]; omega)
    rw [State.edition_out s hout]
    rfl

theorem State.rollover_timeKept (s : State) : TimeKept s s.rollover := by
  unfold State.rollover
  generalize editionNumbers = l
  induction l generalizing s with
  | nil => exact .of_clock rfl
  | cons e l ih =>
    exact ((s.setEdition_timeKept ..).trans (.of_clock (State.mark_clock ..))).trans (ih _)

theorem State.setLink_link (s : State) (l : Link) : (s.setLink l).link = l := by
  unfold State.setLink
  split
  · rfl
  · exact State.mark_link ..

/-- R126: the link timer alone counts. -/
theorem State.link_linkTimerTick (s : State) : s.linkTimerTick.link = { s.link with timer :=
    if s.link.state = .sending ∧ s.link.hold.isSome = true ∧ s.pins.lready = false then min 255 (s.link.timer + 1)
    else s.link.timer } := by
  unfold State.linkTimerTick
  split
  · exact State.setLink_link ..
  · rfl

/-- R47, R126: the new time, with the link timer counted. -/
def State.ticked (s : State) : State := s.nextSecond.linkTimerTick

theorem State.ticked_touches (s : State) : Touches [.clock, .link, .marks] s s.ticked :=
  (s.nextSecond_touches.weaken).trans (s.nextSecond.linkTimerTick_touches.weaken)

theorem State.ticked_clock (s : State) :
    s.ticked.clock = { s.clock with time := (s.clock.time + 1) % secondsPerDay, second := 0 } :=
  s.nextSecond.linkTimerTick_touches.clock_eq

theorem State.advance_eq (s : State) : s.advance = s.ticked.secondEvaluated.mark .time := rfl

theorem State.secondEvaluated_timeKept (s : State) : TimeKept s s.secondEvaluated := by
  unfold State.secondEvaluated
  split
  · exact .of_clock rfl
  · split
    · exact s.rollover_timeKept.trans s.rollover.evaluateAll_timeKept
    · exact s.evaluateAll_timeKept

theorem State.secondEvaluated_rows (s : State) : StatusRowsOnly s s.secondEvaluated := by
  unfold State.secondEvaluated
  split
  · exact .refl s
  · split
    · exact (StatusRowsOnly.of_terms s.rollover_touches.terms_eq).trans s.rollover.evaluateAll_rows
    · exact s.evaluateAll_rows

/-- R63: in PASS-THROUGH an advance moves the time and counts the link timer, and that is all. -/
theorem State.advance_passThrough {s : State} (h : s.part = .passThrough) : s.advance = s.ticked.mark .time := by
  have hpart : s.ticked.part = .passThrough := s.ticked_touches.part_eq.trans h
  rw [State.advance_eq, State.secondEvaluated, if_pos hpart]

theorem State.compose_not_running {s : State} (h : s.part ≠ .running) (s0 : State) (force : Bool) :
    State.compose s0 s force = s := if_neg h

/-- Settles O4: the time and the link timer move first, and what follows keeps the clock's registers and the link. -/
theorem advanceMovesTheTime : Obligations.AdvanceMovesTheTime := by
  intro s
  have hclock : TimeKept s.ticked (State.compose s s.advance false) :=
    (s.ticked.secondEvaluated_timeKept.trans (.of_clock (State.mark_clock ..))).trans
      (.of_clock (State.compose_clock ..))
  obtain ⟨htime, hsecond, hgrace⟩ := hclock
  rw [State.ticked_clock] at htime hsecond hgrace
  have hcompose := State.compose_touches s s.advance false
  have hlink : s.advance.link = s.ticked.link :=
    (State.mark_link ..).trans s.ticked.secondEvaluated_touches.link_eq
  have hrows : StatusRowsOnly s s.advance :=
    ((StatusRowsOnly.of_terms s.ticked_touches.terms_eq).trans s.ticked.secondEvaluated_rows).trans
      (.of_terms (State.mark_terms ..))
  have hall := (s.advance_touches.weaken (l := [.marks, .terms, .clock, .link, .stories, .baskets, .pages, .sendQueue,
    .notices, .free])).trans hcompose.weaken
  refine ⟨State.compose s s.advance false, rfl, htime, hsecond, hgrace, hcompose.2.mem (State.mem_marks_mark ..), ?_,
    ⟨hall.1, hrows.trans (State.compose_rows s s.advance false), hall.2⟩, fun hpass => ?_⟩
  · rw [State.compose_link, hlink]
    exact s.nextSecond.link_linkTimerTick
  · have hstays : State.compose s s.advance false = s.ticked.mark .time := by
      rw [State.compose_not_running (by rw [s.advance_touches.part_eq, hpass]; decide), State.advance_passThrough hpass]
    rw [hstays]
    refine ⟨(s.ticked_touches.trans ((State.mark_touches ..).weaken)).1, fun e => ?_⟩
    rw [State.edition_of_clock (State.mark_clock ..), State.edition, State.ticked_clock, State.edition]

/-- R47, R48: the state whose editions an advance evaluates. -/
def State.rolledIfNewDay (s : State) : State := if s.ticked.clock.time = 0 then s.ticked.rollover else s.ticked

theorem State.advance_running {s : State} (h : s.part ≠ .passThrough) :
    s.advance = s.rolledIfNewDay.evaluateAll.mark .time := by
  have hpart : s.ticked.part ≠ .passThrough := fun c => h (s.ticked_touches.part_eq.symm.trans c)
  rw [State.advance_eq, State.secondEvaluated, if_neg hpart, State.rolledIfNewDay]
  split <;> rfl

theorem Table.at1_map {α β : Type} {n : Nat} (t : Table n α) (f : α → β) (d : α) (i : Nat) :
    (t.map f).at1 (f d) i = f (t.at1 d i) := by
  unfold Table.at1
  split
  · rfl
  · exact Table.at0_map ..

/-- R47, R48: the records that an advance begins its evaluations with. -/
theorem State.rolledIfNewDay_sameRecords (s : State) : SameRecords { s with clock := { s.clock with
    time := (s.clock.time + 1) % secondsPerDay
    editions := if (s.clock.time + 1) % secondsPerDay = 0 then s.clock.editions.map Edition.rolled
      else s.clock.editions } } s.rolledIfNewDay := by
  have hclock := s.ticked_clock
  have htime : s.ticked.clock.time = (s.clock.time + 1) % secondsPerDay := by rw [hclock]
  have hgrace : s.ticked.clock.grace = s.clock.grace := by rw [hclock]
  have hedition (d : Nat) : s.ticked.edition d = s.edition d := by rw [State.edition, hclock, State.edition]
  have htouched := s.ticked_touches
  unfold State.rolledIfNewDay
  rw [htime]
  by_cases hday : (s.clock.time + 1) % secondsPerDay = 0
  · obtain ⟨htime', -, hgrace'⟩ := s.ticked.rollover_timeKept
    have hboth := htouched.trans (s.ticked.rollover_touches.weaken)
    simp only [if_pos hday]
    refine ⟨⟨hboth.pages_eq, hboth.sendQueue_eq, hboth.stories_eq, hboth.baskets_eq, hboth.notices_eq,
      htime'.trans htime⟩, hgrace'.trans hgrace, fun d => ?_⟩
    rw [State.edition_rollover, hedition]
    exact (Table.at1_map s.clock.editions Edition.rolled Edition.unscheduled d).symm
  · simp only [if_neg hday]
    exact ⟨⟨htouched.pages_eq, htouched.sendQueue_eq, htouched.stories_eq, htouched.baskets_eq, htouched.notices_eq,
      htime⟩, hgrace, hedition⟩

/-- Settles O5: the evaluations begin with the records rolled over where a day begins, and nothing after them changes a
record. -/
theorem advanceEvaluatesEveryEdition : Obligations.AdvanceEvaluatesEveryEdition := by
  intro s hpass time begun
  have hbegun : SameRecords begun s.rolledIfNewDay := s.rolledIfNewDay_sameRecords
  have hafter : SameRecords s.rolledIfNewDay.evaluateAll (State.compose s s.advance false) := by
    rw [State.advance_running hpass]
    exact (SameRecords.of_touches (State.mark_touches ..)).trans (.of_touches (State.compose_touches ..))
  refine ⟨State.compose s s.advance false, rfl, fun e he => ?_,
    fun hplaced => State.evaluateAll_inTurn hbegun hafter (show PlacementsRight begun from hplaced)⟩
  have hrolled : begun.edition e = if time = 0 then (s.edition e).rolled else s.edition e := by
    by_cases hday : time = 0
    · simp only [begun, State.edition, if_pos hday]
      exact Table.at1_map s.clock.editions Edition.rolled Edition.unscheduled e
    · simp only [begun, State.edition, if_neg hday]
  rw [hafter.edition, State.edition_evaluateAll _ he, hbegun.edition, hbegun.time, hbegun.grace, hrolled]

/-- Settles O1: a step is `exec` of the front command, and the period that completes the second makes the advance. -/
theorem stepRunsTheFrontCommand : Obligations.StepRunsTheFrontCommand := by
  refine ⟨fun c rest s h => ?_, fun s h => ?_⟩
  · unfold step
    rw [h]
    rfl
  · have hstep : step s = .next (refclkPeriod s) := by
      unfold step
      rw [h]
    rw [hstep]
    refine ⟨fun hearly => ?_, fun hfull => ?_⟩
    · have hnot : ¬refclkPerSecond ≤ s.clock.second + 1 := Nat.not_le_of_lt hearly
      rw [refclkPeriod, if_neg hnot]
      rfl
    · have hdone : refclkPerSecond ≤ s.clock.second + 1 := hfull
      rw [refclkPeriod, if_pos hdone]
      rfl

end Sys2Proof.Machine

/-! ## SETTIME (R49) -/

namespace Sys2Proof.Machine

/-- The end of a step whose request has led to `e`, where row 23 of some terminals may have become dirty, and is answered
there. -/
theorem Asked.answered_rows {s e : State} {k note : Nat} {o : ReqOutcome} {owner : Request → State → State}
    {l : List Region} (h : Asked k s) (howner : owner s.request (s.charge .requestRead) = e.answer o note)
    (he : Touches (.marks :: .terms :: l) (s.charge .requestRead) e) (hrows : StatusRowsOnly (s.charge .requestRead) e)
    (hk : knownKind k = true := by decide) (hl : (l.contains .engine || l.contains .path) = false := by decide) :
    ∃ t, finish s (s.dispatch (· == k) owner) = .next t ∧ Answered o note s t
      ∧ OnlyMarks (.path :: .engine :: l) s t ∧ Touches answerRegions e t := by
  simp only [Bool.or_eq_false_iff] at hl
  obtain ⟨hengine, hpath⟩ := hl
  have hwiden {l' : List Region} {a b : State} (h : Touches l' a b)
      (hl' : ∀ r ∈ l', r ∈ Region.marks :: .terms :: .path :: .engine :: l) :
      Touches (.marks :: .terms :: .path :: .engine :: l) a b := ⟨fun r hr => h.1 r fun c => hr (hl' r c), h.2⟩
  have hcharge := hwiden (State.charge_touches s .requestRead) (by simp)
  have heffect := hwiden he (by simp +contextual)
  have hanswer := hwiden (State.answer_touches e o note) (by simp)
  have hcompose := hwiden (State.compose_touches s (e.answer o note) false) (by simp)
  have hall := ((hcharge.trans heffect).trans hanswer).trans hcompose
  refine ⟨_, by rw [State.dispatch_asked h hk, howner]; rfl, ?_, ⟨hall.1, ?_, hall.2⟩, ?_⟩
  · refine (Answered.of_answer ?_ ?_).compose s false
    · exact he.engine_eq (by simpa using hengine)
    · exact he.path_eq (by simpa using hpath)
  · exact (((StatusRowsOnly.of_terms (State.charge_touches s .requestRead).terms_eq).trans hrows).trans
      (.of_terms (State.answer_terms e o note))).trans (State.compose_rows s _ false)
  · exact ((State.answer_touches e o note).weaken).trans ((State.compose_touches s _ false).weaken)

/-- R49: the state with the new time and a new second. -/
def State.setTo (s : State) (time : Nat) : State := s.withClock { s.clock with time := time, second := 0 }

/-- R49: the time set, every edition evaluated, the time word marked, and the status rows composed. -/
def State.timeSet (s : State) (time : Nat) : State :=
  State.compose s ((s.setTo time).evaluateAll.mark .time) true

theorem State.timeSet_sameRecords (s : State) (time : Nat) : SameRecords (s.setTo time).evaluateAll (s.timeSet time) :=
  (SameRecords.of_touches (State.mark_touches ..)).trans (.of_touches (State.compose_touches ..))

theorem State.timeSet_touches (s : State) (time : Nat) :
    Touches [.marks, .terms, .clock, .stories, .baskets, .pages, .sendQueue, .notices, .free] s (s.timeSet time) :=
  ((((State.withClock_touches ..).weaken).trans ((State.evaluateAll_touches ..).weaken)).trans
    ((State.mark_touches ..).weaken)).trans ((State.compose_touches ..).weaken)

theorem State.timeSet_rows (s : State) (time : Nat) : StatusRowsOnly s (s.timeSet time) :=
  ((s.setTo time).evaluateAll_rows.trans (.of_terms (State.mark_terms ..))).trans (State.compose_rows s _ true)

theorem State.timeSet_timeKept (s : State) (time : Nat) : TimeKept (s.setTo time) (s.timeSet time) :=
  ((s.setTo time).evaluateAll_timeKept.trans (.of_clock (State.mark_clock ..))).trans
    (.of_clock (State.compose_clock ..))

theorem State.mem_marks_timeSet (s : State) (time : Nat) : .time ∈ (s.timeSet time).marks :=
  (State.compose_touches ..).2.mem (State.mem_marks_mark ..)

theorem doSettime_accepted {r : Request} (s : State) (h : ¬r.requester ≠ 0) : doSettime r s
    = (s.timeSet (min 86399 (r.u32 8))).answer (if 86399 < r.u32 8 then .clamped else .done) 0 := if_neg h

/-- Settles O6: a terminal is refused; for the system the time is set and every edition evaluated against it. -/
theorem settimeSetsTheTime : Obligations.SettimeSetsTheTime := by
  intro s h
  by_cases hq : s.request.requester ≠ 0
  · simp only [if_pos hq]
    exact h.refused (owner := doSettime) (if_pos hq)
  · simp only [if_neg hq]
    obtain ⟨t, ht, ha, honly, hshow⟩ := h.answered_rows (doSettime_accepted _ hq) (State.timeSet_touches ..)
      (State.timeSet_rows _ _)
    let time := min 86399 (s.request.u32 8)
    let c := s.charge .requestRead
    have hset : SameRecords { s with clock := { s.clock with time := time } } (c.setTo time) :=
      ⟨⟨rfl, rfl, rfl, rfl, rfl, rfl⟩, rfl, fun _ => rfl⟩
    have hafter : SameRecords (c.setTo time).evaluateAll t :=
      (c.timeSet_sameRecords time).trans (.of_touches hshow)
    obtain ⟨htime, hsecond, hgrace⟩ := (c.timeSet_timeKept time).trans (.of_clock hshow.clock_eq)
    refine ⟨t, ht, ha, htime, hsecond, hgrace, hshow.2.mem (c.mem_marks_timeSet time), fun e he => ?_,
      fun hplaced => State.evaluateAll_inTurn hset hafter hplaced, honly⟩
    rw [hafter.edition, State.edition_evaluateAll _ he]
    rfl

end Sys2Proof.Machine

/-! ## SCHEDULE (R51, R52) -/

namespace Sys2Proof.Machine

/-- R52: the edition's record set, the edition evaluated, and its image marked. -/
def State.scheduled (s : State) (e : Nat) (r : Edition) : State := ((s.setEdition e r).evaluate e).mark (.edition e)

theorem State.scheduled_touches (s : State) (e : Nat) (r : Edition) :
    Touches [.marks, .clock, .stories, .baskets, .pages, .sendQueue, .notices] s (s.scheduled e r) :=
  (((State.setEdition_touches ..).weaken).trans ((State.evaluate_touches ..).weaken)).trans
    ((State.mark_touches ..).weaken)

theorem State.scheduled_timeKept (s : State) (e : Nat) (r : Edition) : TimeKept s (s.scheduled e r) :=
  ((s.setEdition_timeKept e r).trans (State.evaluate_timeKept ..)).trans (.of_clock (State.mark_clock ..))

theorem State.edition_scheduled (s : State) {e : Nat} (r : Edition) (he : 1 ≤ e ∧ e ≤ 4) (d : Nat) :
    (s.scheduled e r).edition d = if e = d then r.evaluated s.clock.time s.clock.grace else s.edition d := by
  obtain ⟨htime, -, hgrace⟩ := s.setEdition_timeKept e r
  unfold State.scheduled
  rw [State.edition_of_clock (State.mark_clock ..), State.edition_evaluate, s.edition_setEdition_self r he, htime,
    hgrace]
  by_cases hd : e = d
  · rw [if_pos hd, if_pos hd]
  · rw [if_neg hd, if_neg hd, s.edition_setEdition_ne r (Ne.symm hd)]

theorem State.scheduled_does {s : State} {e : Nat} (r : Edition) (he : 1 ≤ e ∧ e ≤ 4) (hplaced : PlacementsRight s) :
    EvaluationDoes e r ((s.scheduled e r).edition e) s (s.scheduled e r) := by
  have hset := s.setEdition_sameTables e r
  have hself := s.edition_setEdition_self r he
  have hdoes := State.evaluate_does (hset.placementsRight hplaced) e
  unfold State.scheduled
  rw [State.edition_of_clock (State.mark_clock ..)]
  exact hdoes.congr hset (.of_touches (State.mark_touches ..) (by rw [State.mark_clock])) (by rw [hself])
    (by rw [hself])

/-- R51: past its checks a SCHEDULE answers with the edition's state in the note. -/
theorem doSchedule_accepted {r : Request} {s : State} (hrank : ¬s.isSlotOrSystem r.requester = false)
    (he : ¬validEdition (r.u8 8) = false) :
    let close := min 86399 (r.u32 16)
    let lockout := min close (min 86399 (r.u32 12))
    let x := s.scheduled (r.u8 8) ((s.edition (r.u8 8)).scheduledAt lockout close (r.u8 9 != 0))
    doSchedule r s = x.answer (if lockout = r.u32 12 ∧ close = r.u32 16 then .done else .clamped)
      (x.edition (r.u8 8)).state.code := by
  unfold doSchedule
  dsimp only
  rw [if_neg hrank, if_neg he]
  rfl

theorem Edition.scheduledAt_eq (r : Edition) (lockout close flag : Nat) : r.scheduledAt lockout close (flag != 0)
    = if flag ≠ 0 then ⟨true, lockout, close, .opened, 0, 0, false, false⟩
      else { r with scheduled := true, lockout := lockout, close := close } := by
  unfold Edition.scheduledAt
  by_cases hf : flag = 0 <;> simp [hf]

/-- Settles O7: two checks, and then the evaluation of the edition with its new record. -/
theorem scheduleSetsAnEdition : Obligations.ScheduleSetsAnEdition := by
  intro s hplaced h e close lockout r
  by_cases hrank : s.isReporter s.request.requester = true ∨ s.isEditor s.request.requester = true
  · simp only [if_pos hrank]
    exact h.refused (owner := doSchedule) (if_pos (State.isSlotOrSystem_eq_false.mpr hrank))
  have hrank' : ¬s.isSlotOrSystem s.request.requester = false := mt State.isSlotOrSystem_eq_false.mp hrank
  by_cases he : validEdition e = false
  · simp only [if_neg hrank, if_pos he]
    exact h.refused (owner := doSchedule) ((if_neg hrank').trans (if_pos he))
  simp only [if_neg hrank, if_neg he]
  have he' : 1 ≤ e ∧ e ≤ 4 := validEdition_eq_true.mp (by simpa using he)
  let c := s.charge .requestRead
  obtain ⟨t, ht, ha, honly, hshow⟩ := h.answered (l := [.clock, .stories, .baskets, .pages, .sendQueue, .notices])
    (doSchedule_accepted (s := c) hrank' he) (State.scheduled_touches ..)
  rw [Edition.scheduledAt_eq] at ha hshow
  change Touches answerRegions (c.scheduled e r) t at hshow
  have hedition (d : Nat) : t.edition d = (c.scheduled e r).edition d := State.edition_of_clock hshow.clock_eq d
  obtain ⟨htime, hsecond, hgrace⟩ := (c.scheduled_timeKept e r).trans (.of_clock hshow.clock_eq)
  refine ⟨t, ht, ?_, ?_, fun d hd => ?_, htime, hsecond, hgrace, hshow.2.mem (State.mem_marks_mark ..), ?_, ?_⟩
  · rw [hedition, State.edition_scheduled _ _ he', if_pos rfl]
    rfl
  · rw [hedition]
    exact (State.scheduled_does (s := c) r he' hplaced).congr (.of_touches (State.charge_touches ..) rfl)
      (.of_touches hshow (by rw [hshow.clock_eq])) Iff.rfl rfl
  · rw [hedition, State.edition_scheduled _ _ he', if_neg (Ne.symm hd)]
    rfl
  · rw [hedition]
    exact ha
  · exact honly

end Sys2Proof.Machine

/-! ## HOLD (R58) -/

namespace Sys2Proof.Machine

/-- R58: the record with the hold latched in GRACE, and armed before it. -/
def Edition.withHold (r : Edition) : Edition :=
  if r.state = .grace then { r with latched := true } else { r with armed := true }

/-- R58: the checks of a HOLD and its effect. -/
theorem doHold_settled (r : Request) (s : State) :
    let e := r.u8 8
    let g := s.edition e
    let o : ReqOutcome × Nat :=
      if validEdition e = false then (.badArg, 0)
      else if s.isReporter r.requester = true ∨ s.isEditor r.requester = true then (.rank, 0)
      else if g.scheduled = false then (.badState, 0)
      else if g.state = .closed then (.closed, 0)
      else if g.state ≠ .grace then if g.armed = true then (.busy, 0) else (.done, g.graceCount)
      else if g.latched = true then (.busy, 0)
      else if g.graceCount = 3 then (.limit, 0)
      else (.done, g.graceCount)
    doHold r s = s.settle o.1 o.2 (s.setEdition e g.withHold) := by
  refine State.settle_check Iff.rfl (by decide) fun _ => ?_
  refine State.settle_check State.isSlotOrSystem_eq_false (by decide) fun _ => ?_
  refine State.settle_check Iff.rfl (by decide) fun _ => ?_
  unfold Edition.withHold
  cases (s.edition (r.u8 8)).state with
  | closed => rfl
  | opened => exact State.settle_check Iff.rfl (by decide) fun _ => State.settle_done ..
  | lockout => exact State.settle_check Iff.rfl (by decide) fun _ => State.settle_done ..
  | grace =>
    refine State.settle_check Iff.rfl (by decide) fun _ => ?_
    exact State.settle_check Iff.rfl (by decide) fun _ => State.settle_done ..

/-- Settles O8: the checks of R58 end in one answer; DONE arms or latches the hold, which was clear. -/
theorem holdArmsOrLatches : Obligations.HoldArmsOrLatches := by
  intro s h e r
  let o : ReqOutcome × Nat :=
    if validEdition e = false then (.badArg, 0)
    else if s.isReporter s.request.requester = true ∨ s.isEditor s.request.requester = true then (.rank, 0)
    else if r.scheduled = false then (.badState, 0)
    else if r.state = .closed then (.closed, 0)
    else if r.state ≠ .grace then if r.armed = true then (.busy, 0) else (.done, r.graceCount)
    else if r.latched = true then (.busy, 0)
    else if r.graceCount = 3 then (.limit, 0)
    else (.done, r.graceCount)
  obtain ⟨t, ht, ha, honly, hdone, hrefused⟩ :=
    h.settled (o := o.1) (note := o.2) (l := [.clock]) (doHold_settled s.request _)
      ((State.setEdition_touches ..).weaken)
  have hrefuse {x : ReqOutcome} (ho : o = (x, 0)) (hx : x ≠ .done := by decide) :
      Answered x 0 s t ∧ t.edition e = r := by
    rw [ho] at ha hrefused
    exact ⟨ha, State.edition_of_clock (hrefused hx).clock_eq e⟩
  have hhold {n : Nat} {g : Edition} (ho : o = (.done, n)) (he : ¬validEdition e = false) (hg : r.withHold = g)
      (hr : g ≠ r) : Answered .done n s t ∧ t.edition e = g ∧ MarkItem.edition e ∈ t.marks := by
    rw [ho] at ha hdone
    have hshow := hdone rfl
    subst hg
    refine ⟨ha, (State.edition_of_clock hshow.clock_eq e).trans ?_, hshow.2.mem (State.mem_marks_setEdition hr)⟩
    exact State.edition_setEdition_self _ _ (validEdition_eq_true.mp (by simpa using he))
  have hclock : TimeKept s t ∧ ∀ d, d ≠ e → t.edition d = s.edition d := by
    by_cases ho : o.1 = .done
    · have hshow := hdone ho
      exact ⟨(State.setEdition_timeKept (s.charge .requestRead) e r.withHold).trans (.of_clock hshow.clock_eq),
        fun d hd => (State.edition_of_clock hshow.clock_eq d).trans (State.edition_setEdition_ne _ _ hd)⟩
    · have hshow := hrefused ho
      exact ⟨.of_clock hshow.clock_eq, fun d _ => State.edition_of_clock hshow.clock_eq d⟩
  obtain ⟨⟨htime, hsecond, hgrace⟩, hothers⟩ := hclock
  refine ⟨t, ht, honly, hothers, htime, hsecond, hgrace, ?_⟩
  by_cases he : validEdition e = false
  · rw [if_pos he]
    exact hrefuse (if_pos he)
  rw [if_neg he]
  have ho : o = _ := if_neg he
  by_cases hrank : s.isReporter s.request.requester = true ∨ s.isEditor s.request.requester = true
  · rw [if_pos hrank]
    exact hrefuse (ho.trans (if_pos hrank))
  rw [if_neg hrank]
  replace ho := ho.trans (if_neg hrank)
  by_cases hset : r.scheduled = false
  · rw [if_pos hset]
    exact hrefuse (ho.trans (if_pos hset))
  rw [if_neg hset]
  replace ho := ho.trans (if_neg hset)
  by_cases hclosed : r.state = .closed
  · rw [if_pos hclosed]
    exact hrefuse (ho.trans (if_pos hclosed))
  rw [if_neg hclosed]
  replace ho := ho.trans (if_neg hclosed)
  by_cases hwindow : r.state = .grace
  · rw [if_neg (not_not_intro hwindow)]
    replace ho := ho.trans (if_neg (not_not_intro hwindow))
    by_cases hlatched : r.latched = true
    · rw [if_pos hlatched]
      exact hrefuse (ho.trans (if_pos hlatched))
    rw [if_neg hlatched]
    replace ho := ho.trans (if_neg hlatched)
    by_cases hlimit : r.graceCount = 3
    · rw [if_pos hlimit]
      exact hrefuse (ho.trans (if_pos hlimit))
    rw [if_neg hlimit]
    exact hhold (ho.trans (if_neg hlimit)) he (if_pos hwindow) fun c => hlatched (congrArg Edition.latched c).symm
  · rw [if_pos hwindow]
    replace ho := ho.trans (if_pos hwindow)
    by_cases harmed : r.armed = true
    · rw [if_pos harmed]
      exact hrefuse (ho.trans (if_pos harmed))
    rw [if_neg harmed]
    exact hhold (ho.trans (if_neg harmed)) he (if_neg hwindow) fun c => harmed (congrArg Edition.armed c).symm

end Sys2Proof.Machine

/-! ## The state after reset -/

namespace Sys2Proof.Machine

/-- R65: after a reset no story is placed. -/
theorem placementsRight_reset : PlacementsRight State.reset := by
  have hpage (p : Nat) : State.reset.page p = Page.blank := Table.at0_fill ..
  have hstory (n : Nat) : State.reset.story n = Story.freed := Table.at1_fill ..
  refine ⟨fun p i _ q hq => ?_, fun n p i hn => ?_, fun n _ => ?_⟩
  · rw [hpage] at hq
    cases hq
  · rw [hstory] at hn
    cases hn
  · rw [hstory]
    rfl

/-- Settles O60: memory is empty, no index differs from another, and no page or story names a placement. -/
theorem resetMeetsTheInvariants : Obligations.ResetMeetsTheInvariants := by
  have hranges : RangesRight State.reset := by
    unfold RangesRight
    decide
  exact ⟨rfl, rfl, hranges, placementsRight_reset, fun c => PartState.noConfusion c⟩

end Sys2Proof.Machine

/-! # The typesetter link (chapter 7)

The link after an event is said once, as `LinkGoesOn`: the pump produces a frame, may move it, and produces the next. A step of
the memory side is granted to the link only when the link asks for it. -/

/-! ## What the arbiter's classes ask for (R97, R98) -/

namespace Sys2Proof.Machine

theorem inRotation_asked {n rot : Nat} {asks : Nat → Option MemOp} {o : MemOp} (h : inRotation n rot asks = some o) :
    ∃ i, asks i = some o := by
  obtain ⟨i, -, hi⟩ := List.exists_of_findSome?_eq_some h
  exact ⟨_, hi⟩

theorem State.lineAsks_rank {s : State} {n : Nat} {o : MemOp} (h : s.lineAsks n = some o) : o.rank = 1 := by
  unfold State.lineAsks at h
  split at h
  · split at h
    · cases h; rfl
    · obtain ⟨k, -, rfl⟩ := Option.map_eq_some_iff.mp h
      rfl
  · cases h

theorem State.engineAsks_rank {s : State} {o : MemOp} (h : s.engineAsks = some o) : o.rank = 3 := by
  unfold State.engineAsks at h
  split at h
  case h_1 | h_5 => split at h <;> cases h; rfl
  case h_2 | h_4 => cases h; rfl
  case h_3 => cases h

theorem State.noticesAsk_rank {s : State} {o : MemOp} (h : s.noticesAsk = some o) : o.rank = 3 := by
  unfold State.noticesAsk at h
  split at h
  · cases h; rfl
  · split at h <;> cases h
    rfl

theorem State.imagesAsk_rank {s : State} {o : MemOp} (h : s.imagesAsk = some o) : o.rank = 3 := by
  obtain ⟨k, -, rfl⟩ := Option.map_eq_some_iff.mp h
  rfl

theorem State.class3Asks_rank {s : State} {i : Nat} {o : MemOp} (h : s.class3Asks i = some o) : o.rank = 3 := by
  unfold State.class3Asks at h
  split at h
  · exact State.engineAsks_rank h
  split at h
  · exact State.noticesAsk_rank h
  · exact State.imagesAsk_rank h

theorem State.scannerAsks_rank {s : State} {o : MemOp} (h : s.scannerAsks = some o) : o.rank = 4 := by
  unfold State.scannerAsks at h
  split at h <;> cases h
  rfl

theorem State.class5Asks_rank {s : State} {i : Nat} {o : MemOp} (h : s.class5Asks i = some o) : o.rank = 5 := by
  unfold State.class5Asks at h
  split at h
  · unfold State.recountAsks at h
    split at h <;> cases h
    rfl
  · unfold State.loadAsks at h
    split at h <;> cases h
    rfl

/-- R97: an engine operation of class 2 is chosen only when the link asks for it. -/
theorem State.linkAsks_of_engineOp {s : State} {o : MemOp} (h : s.engineOp = some o) (hrank : o.rank = 2) :
    s.linkAsks = some o := by
  unfold State.engineOp at h
  simp only [Option.or_eq_some_iff] at h
  obtain hline | ⟨-, hlink | ⟨-, h3 | ⟨-, h4 | ⟨-, h5⟩⟩⟩⟩ := h
  · obtain ⟨i, hi⟩ := inRotation_asked hline
    cases (State.lineAsks_rank hi).symm.trans hrank
  · exact hlink
  · obtain ⟨i, hi⟩ := inRotation_asked h3
    cases (State.class3Asks_rank hi).symm.trans hrank
  · cases (State.scannerAsks_rank h4).symm.trans hrank
  · obtain ⟨i, hi⟩ := inRotation_asked h5
    cases (State.class5Asks_rank hi).symm.trans hrank

/-- R97: a grant that is neither a processor read nor a drain is the engine side's choice. -/
theorem State.engineOp_of_grant {s : State} {o : MemOp} (h : s.grant = some o) (hrank : 1 ≤ o.rank) :
    s.engineOp = some o := by
  have hread : o ≠ .processorRead := by
    rintro rfl
    cases hrank
  have hdrain : o ≠ .drain := by
    rintro rfl
    cases hrank
  unfold State.grant at h
  split at h
  · exact absurd (Option.some.inj h).symm hread
  split at h
  · exact absurd (Option.some.inj h).symm hdrain
  split at h
  case h_1 =>
    split at h
    case h_1 heq => rw [heq, h]
    case h_2 =>
      split at h
      · exact absurd (Option.some.inj h).symm hdrain
      · cases h
  case h_2 =>
    split at h
    · exact absurd (Option.some.inj h).symm hdrain
    · exact h

/-- R110, R120, R121: what holds of the link when it asks for a piece of text. -/
theorem State.linkAsks_text {s : State} {c : SendCtx} {i x : Nat} {o : MemOp} (h : s.linkAsks = some o)
    (hctx : s.link.ctx = some c) (hpos : c.pos = .text i x) :
    s.link.state = .sending ∧ s.link.hold = none ∧ c.tag = none ∧ c.piece = [] ∧ x < s.sendBlockLength c i := by
  unfold State.linkAsks at h
  simp only [hctx, hpos] at h
  split at h
  case isTrue hasks => exact hasks
  case isFalse => cases h

/-! ## Steps that change no input of a status row (R151) -/

/-- The regions that hold no input of a status row. -/
def noInputRegions : List Region :=
  [.pins, .part, .cause, .base, .mem, .path, .engine, .marks, .copyfit, .sendQueue, .link, .lines, .scanner, .free, .pending]

theorem State.commonInputs_of_touches {s t : State} (h : Touches noInputRegions s t) : t.commonInputs = s.commonInputs := by
  unfold State.commonInputs State.faultedPages
  rw [h.clock_eq, h.pages_eq]

theorem State.ownInputs_of_touches {s t : State} (h : Touches noInputRegions s t) (k : Nat) :
    t.ownInputs k = s.ownInputs k := by
  have hheader (b : Nat) : t.basketHeader b = s.basketHeader b := by
    unfold State.basketHeader State.basket State.story
    rw [h.stories_eq, h.baskets_eq]
  have hheld : t.heldBy k = s.heldBy k := by
    unfold State.heldBy State.storiesWhere
    rw [h.stories_eq]
  unfold State.ownInputs
  rw [State.term_of_terms h.terms_eq, hheader, hheld, State.story_of_stories h.stories_eq, h.notices_eq]

/-- R151: where no input changed, the composition marks nothing. -/
theorem State.compose_eq_of_touches {s t : State} (h : Touches noInputRegions s t) : State.compose s t false = t := by
  have hone (k : Nat) : State.composeOne s (false || decide (s.commonInputs ≠ t.commonInputs)) t k = t := by
    unfold State.composeOne
    simp [State.commonInputs_of_touches h, State.ownInputs_of_touches h]
  unfold State.compose
  split
  · exact List.foldlRecOn (motive := (· = t)) terminalNumbers _ rfl fun u hu k _ => by rw [hu, hone]
  · rfl

/-! ## The stream's next frame (R118, R120, R121) -/

/-- The stream takes nothing but the story records from the state. -/
theorem State.nextFrame_of_stories {s t : State} (h : t.stories = s.stories) (c : SendCtx) :
    t.nextFrame c = s.nextFrame c := by
  unfold State.nextFrame State.sendBlockLength State.story
  rw [h]

/-- A stream with no frame ready has passed over its whole piece: asked again, it gives none and stays where it is. -/
theorem State.nextFrame_waits {s : State} {c : SendCtx} (h : (s.nextFrame c).1 = none) :
    s.nextFrame (s.nextFrame c).2 = (none, (s.nextFrame c).2) := by
  cases hpos : c.pos with
  | pageStart k => simp [State.nextFrame, hpos] at h
  | setup i k => simp [State.nextFrame, hpos] at h
  | pageEnd => simp [State.nextFrame, hpos] at h
  | finished => simp [State.nextFrame, hpos]
  | text i x =>
    rcases hscan : scanPiece i x c.piece with ⟨_ | f, x', bs⟩
    · by_cases hx : x' < s.sendBlockLength c i
      · have hnext : s.nextFrame c = (none, { c with pos := .text i x', piece := [] }) := by
          simp [State.nextFrame, hpos, hscan, hx]
        rw [hnext]
        exact if_pos hx
      · simp [State.nextFrame, hpos, hscan, hx] at h
    · simp [State.nextFrame, hpos, hscan] at h

theorem SendCtx.storyAt_of_placed {c : SendCtx} {i : Nat} {q : Placed} (h : c.placements[i]? = some q) :
    c.storyAt i = q.story := by
  unfold SendCtx.storyAt
  rw [h]

/-! ## The pump: a frame is produced, it may move, and the next is produced (R116, R121) -/

section
variable {s : State} {c : SendCtx} {f : LinkFrame}

theorem State.linkProduce_empty (hsend : s.link.state = .sending) (hctx : s.link.ctx = some c) (hhold : s.link.hold = none) :
    s.linkProduce = s.withLink { s.link with hold := (s.nextFrame c).1, ctx := some (s.nextFrame c).2 } := by
  unfold State.linkProduce
  rw [if_pos ⟨hsend, hhold⟩, hctx]

theorem State.linkProduce_full (hhold : s.link.hold = some f) : s.linkProduce = s :=
  if_neg fun h => by simp [hhold] at h

theorem State.linkMove_moves (hsend : s.link.state = .sending) (hhold : s.link.hold = some f)
    (hmoves : s.link.shift = none ∧ s.pins.lready = true) :
    s.linkMove = s.withLink { s.link with hold := none, shift := some f } := by
  unfold State.linkMove
  rw [if_pos ⟨hsend, by rw [hhold]; rfl, hmoves⟩, hhold]

theorem State.linkMove_empty (hhold : s.link.hold = none) : s.linkMove = s :=
  if_neg fun h => by simp [hhold] at h

theorem State.linkMove_stays (hstays : ¬(s.link.shift = none ∧ s.pins.lready = true)) : s.linkMove = s :=
  if_neg fun h => hstays h.2.2

/-- A frame held moves to an empty shift register, and the next frame is produced behind it. -/
theorem State.linkMove_linkProduce_link (hsend : s.link.state = .sending) (hctx : s.link.ctx = some c)
    (hhold : s.link.hold = some f) (hmoves : s.link.shift = none ∧ s.pins.lready = true) :
    s.linkMove.linkProduce.link
      = { s.link with shift := some f, hold := (s.nextFrame c).1, ctx := some (s.nextFrame c).2 } := by
  rw [State.linkMove_moves hsend hhold hmoves, State.linkProduce_empty (c := c)]
  · rfl
  · exact hsend
  · exact hctx
  · rfl

/-- R116, R121: the pump is what the link does after an event in a send. -/
theorem State.linkPump_goesOn (hsend : s.link.state = .sending) (hctx : s.link.ctx = some c) :
    LinkGoesOn s c s.pins.lready s.link s.linkPump.link := by
  unfold State.linkPump
  refine ⟨fun f hhold => ?held, fun hhold => ?empty⟩
  case held =>
    rw [State.linkProduce_full hhold]
    refine ⟨State.linkMove_linkProduce_link hsend hctx hhold, fun hstays => ?_⟩
    rw [State.linkMove_stays hstays, State.linkProduce_full hhold]
  case empty =>
    rw [State.linkProduce_empty hsend hctx hhold]
    refine ⟨fun f hfirst hmoves => ?moved, fun hwaits => ?waits⟩
    case moved => exact State.linkMove_linkProduce_link hsend rfl hfirst hmoves
    case waits =>
      cases hfirst : (s.nextFrame c).1 with
      | none =>
        rw [State.linkMove_empty rfl, State.linkProduce_empty (c := (s.nextFrame c).2),
          State.nextFrame_of_stories (s.withLink_stories _), State.nextFrame_waits hfirst]
        · rfl
        · exact hsend
        · rfl
        · rfl
      | some f =>
        have hstays : ¬(s.link.shift = none ∧ s.pins.lready = true) := hwaits.resolve_left (by simp [hfirst])
        rw [State.linkMove_stays, State.linkProduce_full rfl]
        · rfl
        · exact hstays

theorem LinkGoesOn.of_stories {t : State} {ready : Bool} {l l' : Link} (hgoes : LinkGoesOn t c ready l l')
    (h : t.stories = s.stories) : LinkGoesOn s c ready l l' := by
  unfold LinkGoesOn at hgoes
  simp only [State.nextFrame_of_stories h] at hgoes
  exact hgoes

/-! ## LINK_TEXT_READ (R120) -/

/-- R120: the link goes on with the bytes of the piece from the scan offset. -/
theorem State.readLinkPiece_goesOn {i : Nat} {q : Placed} (x : Nat) (hsend : s.link.state = .sending)
    (hq : c.placements[i]? = some q) :
    let piece := (s.mem.readBytes ((s.story q.story).base + 16 * (x / 16)) 16).drop (x % 16)
    LinkGoesOn s { c with piece := piece } s.pins.lready { s.link with ctx := some { c with piece := piece } }
      (s.readLinkPiece c i x).link := by
  unfold State.readLinkPiece
  rw [SendCtx.storyAt_of_placed hq]
  refine (State.linkPump_goesOn ?_ ?_).of_stories (s.withLink_stories _)
  · exact hsend
  · rfl

theorem State.linkTextGrant_touches (s : State) (c : SendCtx) (i x : Nat) :
    Touches [.path, .link] s ((s.charge .linkText).readLinkPiece c i x) :=
  (s.charge_touches .linkText).weaken.trans (State.readLinkPiece_touches ..).weaken

theorem exec_linkTextRead {i x : Nat} (hgrant : s.grant = some .linkText) (hctx : s.link.ctx = some c)
    (hpos : c.pos = .text i x) : exec .linkTextRead s = .next ((s.charge .linkText).readLinkPiece c i x) := by
  show finish s (s.serve .linkText _) = _
  rw [State.serve_granted hgrant]
  simp only [State.charge_link, hctx, hpos]
  exact congrArg Host.Outcome.next (State.compose_eq_of_touches (s.linkTextGrant_touches c i x).weaken)

end

/-- Settles O45: the link asked for the piece, so its holding buffer is empty, and it goes on with the bytes read. -/
theorem linkTextIsReadInPieces : Obligations.LinkTextIsReadInPieces := by
  intro s c i x q hgrant hctx hpos hq
  obtain ⟨hsend, hhold, htag, hspent, -⟩ :=
    State.linkAsks_text (State.linkAsks_of_engineOp (State.engineOp_of_grant hgrant (by decide)) rfl) hctx hpos
  have hgoes := ((s.charge .linkText).readLinkPiece_goesOn x (by rw [State.charge_link, hsend]) hq).of_stories
    (s.charge_stories .linkText)
  simp only [State.charge_mem, State.charge_link, State.charge_pins, State.story_charge] at hgoes
  obtain ⟨hmoved, hwaits⟩ := hgoes.2 hhold
  refine ⟨htag, hspent, _, exec_linkTextRead hgrant hctx hpos, hsend, hhold,
    (s.linkTextGrant_touches c i x).1,
    fun f hfirst hshift hready => hmoved f hfirst ⟨hshift, hready⟩, fun hstays => hwaits ?_⟩
  rcases hstays with hnone | hshift | hready
  · exact .inl hnone
  · exact .inr fun hmoves => hshift hmoves.1
  · exact .inr fun hmoves => by simp [hmoves.2] at hready

end Sys2Proof.Machine

/-! ## The stream of a send, frame by frame (R115, R118 to R121) -/

namespace Sys2Proof.Machine

/-! ### The translation table over a piece (R120) -/

section
variable {i x : Nat} {b : Byte} {bs : List Byte}

theorem scanPiece_frame (h : b = 0x1C#8 ∨ b = 0x1E#8 ∨ 0x20 ≤ b.toNat) : scanPiece i x (b :: bs)
    = (some (if b = 0x1E#8 then ⟨true, 0x07#8, .text i x⟩ else ⟨false, b, .text i x⟩), x + 1, bs) := by
  unfold scanPiece
  by_cases hpara : b = 0x1E#8
  · rw [if_pos hpara, if_pos hpara]
  · rw [if_neg hpara, if_neg hpara, if_pos (h.imp_right (·.resolve_left hpara))]

theorem scanPiece_passes (h : ¬(b = 0x1C#8 ∨ b = 0x1E#8 ∨ 0x20 ≤ b.toNat)) :
    scanPiece i x (b :: bs) = scanPiece i (x + 1) bs := by
  obtain ⟨hquad, hpara, hcode⟩ : b ≠ 0x1C#8 ∧ b ≠ 0x1E#8 ∧ ¬0x20 ≤ b.toNat := by simpa only [not_or] using h
  rw [scanPiece, if_neg hpara, if_neg (not_or.mpr ⟨hquad, hcode⟩)]

end

/-! ### The next frame at each position of the stream (R118, R121) -/

section
variable {s : State} {c : SendCtx} {i x k : Nat}

theorem SendCtx.pageStartBytes_eq (c : SendCtx) : c.pageStartBytes = [0x01, c.printed / 256, c.printed, c.edition,
    c.sectionCode, if c.resumeFlag then 1 else 0].map (BitVec.ofNat 8) := rfl

theorem setupBytes_eq (n : Nat) (r : Story) : setupBytes n r = [0x02, n / 256, n, 0x03, r.font, 0x04, r.size, 0x05,
    r.leading / 256, r.leading, 0x06, r.measure / 256, r.measure].map (BitVec.ofNat 8) := rfl

theorem State.nextFrame_pageStart (hpos : c.pos = .pageStart k) : s.nextFrame c
    = (some ⟨true, c.pageStartBytes.getD k 0#8, .pageStart⟩,
      { c with pos := if k + 1 < 6 then .pageStart (k + 1) else c.atPlacement c.startPos }) := by
  simp only [State.nextFrame, hpos]

/-- The setup bytes of a story are taken from its record when its first frame is produced. -/
theorem State.nextFrame_setup_first {q : Placed} (hpos : c.pos = .setup i 0) (hq : c.placements[i]? = some q) :
    s.nextFrame c = (some ⟨true, 0x02#8, .setup i⟩,
      { c with setup := setupBytes q.story (s.story q.story), pos := .setup i 1 }) := by
  simp only [State.nextFrame, hpos, SendCtx.storyAt_of_placed hq]
  rfl

theorem State.nextFrame_setup_later (hpos : c.pos = .setup i k) (hk : 0 < k) : s.nextFrame c
    = (some ⟨true, c.setup.getD k 0#8, .setup i⟩,
      { c with pos := if k + 1 < 13 then .setup i (k + 1) else .text i (c.startOffset i) }) := by
  simp only [State.nextFrame, hpos, if_neg (Nat.ne_of_gt hk)]

theorem State.nextFrame_text_frame {f : LinkFrame} {y : Nat} {bs : List Byte} (hpos : c.pos = .text i x)
    (hscan : scanPiece i x c.piece = (some f, y, bs)) :
    s.nextFrame c = (some f, { c with pos := .text i y, piece := bs }) := by
  simp only [State.nextFrame, hpos, hscan]

/-- The stream of a text is decided by the scan: where two positions scan alike, it goes on alike. -/
theorem State.nextFrame_text_congr {y : Nat} {bs : List Byte} (hpos : c.pos = .text i x)
    (hscan : scanPiece i x c.piece = scanPiece i y bs) :
    s.nextFrame c = s.nextFrame { c with pos := .text i y, piece := bs } := by
  simp only [State.nextFrame, hpos, hscan]
  rfl

theorem State.nextFrame_text_spent (hpos : c.pos = .text i x) (hpiece : c.piece = []) (hx : x < s.sendBlockLength c i) :
    s.nextFrame c = (none, { c with pos := .text i x, piece := [] }) := by
  simp only [State.nextFrame, hpos, hpiece, scanPiece, if_pos hx]

theorem State.nextFrame_storyEnd (hpos : c.pos = .text i x) (hpiece : c.piece = []) (hx : ¬x < s.sendBlockLength c i) :
    s.nextFrame c = (some ⟨true, 0x08#8, .storyEnd i⟩, { c with pos := c.atPlacement (i + 1), piece := [] }) := by
  simp only [State.nextFrame, hpos, hpiece, scanPiece, if_neg hx]

theorem State.nextFrame_pageEnd (hpos : c.pos = .pageEnd) :
    s.nextFrame c = (some ⟨true, 0x09#8, .pageEnd⟩, { c with pos := .finished }) := by
  simp only [State.nextFrame, hpos]

theorem State.sendBlockLength_of_placed {q : Placed} (hq : c.placements[i]? = some q) :
    s.sendBlockLength c i = 256 * (s.story q.story).capacity := by
  simp only [State.sendBlockLength, hq]

/-! ### LTXD (R115) -/

theorem Link.ltxd_shifting {l : Link} {f : LinkFrame} (h : l.shift = some f) : l.ltxd = f.bits := by
  simp only [Link.ltxd, h]

theorem Link.ltxd_marking {l : Link} (h : l.shift = none) : l.ltxd = [true] := by
  simp only [Link.ltxd, h]

end

/-- Settles O44, position by position of the stream; the bytes are those of the two argument lists, and a piece is translated by
its scan. -/
theorem theStreamOfASend : Obligations.TheStreamOfASend := by
  intro s c
  refine ⟨fun k _ hpos => ?pageStart, fun i q hpos hq => ?setupFirst, fun i k _ hk hpos => ?setupLater,
    fun i x b bs hpos hpiece hframe => ?frame, fun i x b bs hpos hpiece hnone => ?passed,
    fun i x q hpos hpiece hq => ⟨fun hx => ?spent, fun hx => ?storyEnd⟩, fun hpos => ?pageEnd,
    fun f hshift => Link.ltxd_shifting hshift, Link.ltxd_marking⟩
  case pageStart =>
    rw [State.nextFrame_pageStart hpos, SendCtx.pageStartBytes_eq]
    exact ⟨rfl, ite_congr (propext Nat.succ_lt_succ_iff) (fun _ => rfl) fun _ => rfl⟩
  case setupFirst =>
    rw [State.nextFrame_setup_first hpos hq, setupBytes_eq]
    exact ⟨rfl, rfl, rfl⟩
  case setupLater =>
    rw [State.nextFrame_setup_later hpos hk]
    exact ⟨rfl, ite_congr (propext Nat.succ_lt_succ_iff) (fun _ => rfl) fun _ => rfl⟩
  case frame =>
    rw [State.nextFrame_text_frame hpos (hpiece ▸ scanPiece_frame hframe)]
    exact ⟨rfl, rfl, rfl⟩
  case passed => exact State.nextFrame_text_congr hpos (hpiece ▸ scanPiece_passes hnone)
  case spent =>
    rw [State.nextFrame_text_spent hpos hpiece (by rwa [State.sendBlockLength_of_placed hq])]
    exact ⟨rfl, rfl⟩
  case storyEnd =>
    rw [State.nextFrame_storyEnd hpos hpiece (by rwa [State.sendBlockLength_of_placed hq, Nat.not_lt])]
    exact ⟨rfl, rfl⟩
  case pageEnd =>
    rw [State.nextFrame_pageEnd hpos]
    exact ⟨rfl, rfl⟩

end Sys2Proof.Machine

/-! ## The ready and fault inputs (R116, R123, R126) -/

namespace Sys2Proof.Machine

section
variable {s : State} {f : LinkFrame}

theorem finish_of_touches {t : State} (h : Touches noInputRegions s t) : finish s t = .next t :=
  congrArg Host.Outcome.next (State.compose_eq_of_touches h)

theorem finish_self (s : State) : finish s s = .next s := congrArg Host.Outcome.next s.compose_self

theorem State.withPins_finish (s : State) (x : Pins) : finish s (s.withPins x) = .next (s.withPins x) :=
  finish_of_touches (s.withPins_touches x).weaken

/-! ### What the pump leaves unchanged -/

theorem State.linkProduce_link (s : State) : ∃ hold ctx, s.linkProduce.link = { s.link with hold := hold, ctx := ctx } := by
  unfold State.linkProduce
  split
  · split
    · exact ⟨_, _, rfl⟩
    · exact ⟨_, _, rfl⟩
  · exact ⟨_, _, rfl⟩

/-- A frame moves only to an empty shift register. -/
theorem State.linkMove_link (s : State) : ∃ hold shift, s.linkMove.link = { s.link with hold := hold, shift := shift }
    ∧ ∀ f, s.link.shift = some f → shift = some f := by
  unfold State.linkMove
  split
  case isTrue hmoves => exact ⟨_, _, rfl, fun f hf => by simp [hf] at hmoves⟩
  case isFalse => exact ⟨_, _, rfl, fun f hf => hf⟩

theorem State.linkPump_link (s : State) : ∃ hold shift ctx,
    s.linkPump.link = { s.link with hold := hold, shift := shift, ctx := ctx }
    ∧ ∀ f, s.link.shift = some f → shift = some f := by
  obtain ⟨_, _, hfirst⟩ := s.linkProduce_link
  obtain ⟨_, shift, hmove, hkeeps⟩ := s.linkProduce.linkMove_link
  obtain ⟨hold, ctx, hsecond⟩ := s.linkProduce.linkMove.linkProduce_link
  rw [hfirst] at hmove hkeeps
  rw [hmove] at hsecond
  exact ⟨hold, shift, ctx, hsecond, hkeeps⟩

theorem State.linkPump_not_sending (h : s.link.state ≠ .sending) : s.linkPump = s := by
  have hproduce : s.linkProduce = s := if_neg fun hs => h hs.1
  have hmove : s.linkMove = s := if_neg fun hs => h hs.1
  unfold State.linkPump
  rw [hproduce, hmove, hproduce]

/-- R116: a frame that waited moves to the shift register, whatever is produced behind it. -/
theorem State.linkPump_moves (hsend : s.link.state = .sending) (hhold : s.link.hold = some f)
    (hmoves : s.link.shift = none ∧ s.pins.lready = true) : s.linkPump.link.shift = some f := by
  unfold State.linkPump
  rw [State.linkProduce_full hhold]
  obtain ⟨_, _, hlink⟩ := s.linkMove.linkProduce_link
  rw [hlink, State.linkMove_moves hsend hhold hmoves]
  rfl

/-! ### LREADY and LFAULT -/

/-- R126: the link with the wait-ready condition cleared, and the timer too unless it has stopped. -/
def Link.readied (l : Link) : Link :=
  { l with waitReady := false, timer := if l.state = .halted then l.timer else 0 }

/-- R116, R126: the state in which an assertion of LREADY starts the pump. -/
def State.readied (s : State) : State := (s.withPins { s.pins with lready := true }).setLink s.link.readied

@[simp] theorem State.readied_link (s : State) : s.readied.link = s.link.readied := State.setLink_link ..

@[simp] theorem State.readied_pins (s : State) : s.readied.pins = { s.pins with lready := true } := State.setLink_pins ..

@[simp] theorem State.readied_stories (s : State) : s.readied.stories = s.stories := State.setLink_stories ..

theorem State.readied_linkPump_touches (s : State) : Touches [.pins, .link, .marks] s s.readied.linkPump :=
  ((s.withPins_touches _).weaken.trans (State.setLink_touches ..).weaken).trans (State.linkPump_touches _).weaken

theorem State.readied_linkPump_only (s : State) : Only [.pins, .link] s s.readied.linkPump := by
  have htouches := s.readied_linkPump_touches
  have honly := Only.of_touches (l := [.pins, .link]) htouches.weaken
  rwa [State.compose_eq_of_touches htouches.weaken] at honly

theorem exec_lreadyAssert_asserted (h : s.pins.lready = true) : exec .lreadyAssert s = .next s := by
  show finish s (if s.pins.lready = true then s else _) = _
  rw [if_pos h, finish_self]

theorem exec_lreadyAssert (h : s.pins.lready = false) : exec .lreadyAssert s = .next s.readied.linkPump := by
  show finish s (if s.pins.lready = true then s else s.readied.linkPump) = _
  rw [if_neg (by simp [h])]
  exact finish_of_touches s.readied_linkPump_touches.weaken

theorem exec_lfaultAssert_asserted (h : s.pins.lfault = true) : exec .lfaultAssert s = .next s := by
  show finish s (if s.pins.lfault = true then s else _) = _
  rw [if_pos h, finish_self]

theorem exec_lfaultAssert_not_sending (h : s.link.state ≠ .sending) :
    exec .lfaultAssert s = .next (s.withPins { s.pins with lfault := true }) := by
  cases hlevel : s.pins.lfault with
  | true => rw [exec_lfaultAssert_asserted hlevel, ← hlevel]; rfl
  | false =>
    show execLfaultAssert s = _
    unfold execLfaultAssert
    rw [if_neg (by simp [hlevel])]
    split
    case h_1 hsend _ => exact absurd hsend h
    case h_2 => exact s.withPins_finish _

/-- R116, R121: in a send an assertion of LREADY is an event after which the link goes on. -/
theorem State.readied_goesOn {c : SendCtx} (hsend : s.link.state = .sending) (hctx : s.link.ctx = some c) :
    LinkGoesOn s c true { s.link with waitReady := false, timer := 0 } s.readied.linkPump.link := by
  have hgoes : LinkGoesOn s.readied c s.readied.pins.lready s.readied.link s.readied.linkPump.link :=
    State.linkPump_goesOn (by rw [s.readied_link]; exact hsend) (by rw [s.readied_link]; exact hctx)
  have hlink : s.link.readied = { s.link with waitReady := false, timer := 0 } := by
    unfold Link.readied
    rw [if_neg (by simp [hsend])]
  rw [s.readied_link, s.readied_pins, hlink] at hgoes
  exact hgoes.of_stories s.readied_stories

end

/-- Settles O47: the levels change alone, and an assertion of LREADY is a cleared wait followed by the pump. -/
theorem linkInputs : Obligations.LinkInputs := by
  intro s
  refine ⟨s.withPins_finish _, s.withPins_finish _, exec_lfaultAssert_not_sending, exec_lfaultAssert_asserted,
    exec_lreadyAssert_asserted, fun hready => ?_⟩
  obtain ⟨_, _, _, hlink, hkeeps⟩ := s.readied.linkPump_link
  rw [s.readied_link] at hlink hkeeps
  refine ⟨_, exec_lreadyAssert hready, (State.linkPump_touches _).pins_eq.trans s.readied_pins,
    s.readied_linkPump_only, by rw [hlink]; rfl, by rw [hlink]; rfl, fun hidle => ?notSending,
    fun hsend c hctx => State.readied_goesOn hsend hctx, fun hsend hshift f hhold => ?moved,
    fun f hf => by rw [hlink]; exact hkeeps f hf⟩
  case notSending =>
    rw [State.linkPump_not_sending (by rw [s.readied_link]; exact hidle), s.readied_link]
    rfl
  case moved =>
    refine State.linkPump_moves ?_ ?_ ⟨?_, by rw [s.readied_pins]⟩ <;> rw [s.readied_link]
    · exact hsend
    · exact hhold
    · exact hshift

end Sys2Proof.Machine

/-! # Terminal lines (chapter 8)

What the transmitter of a line does after an event is said once, of the line alone: where it goes after a row, after a poll and from
IDLE (`RowOver`, `PollOver`), and that a transmitter which is `Settled` stays as it is. The steps of the lines, of the scanner and
of a RELOAD end in one of these. -/

/-! ## Steps that change notices and dirty sets, but no input of a status row (R151) -/

namespace Sys2Proof.Machine

/-- From `s` to `t` no input of a status row changes: of the notice writer the refused flags stay, and of each terminal the
configuration and the key ring. -/
structure SameInputs (s t : State) : Prop where
  touches : Touches (.notices :: .terms :: noInputRegions) s t
  refused : t.notices.refused = s.notices.refused
  cfg : ∀ k, (t.term k).cfg = (s.term k).cfg
  ring : ∀ k, (t.term k).ring = (s.term k).ring

section
variable {s t u : State}

theorem SameInputs.trans (h1 : SameInputs s t) (h2 : SameInputs t u) : SameInputs s u :=
  ⟨h1.touches.trans h2.touches, h2.refused.trans h1.refused, fun k => (h2.cfg k).trans (h1.cfg k),
    fun k => (h2.ring k).trans (h1.ring k)⟩

/-- A change of terminals, lines and the scanner alone, configurations and rings kept. -/
theorem SameInputs.of_terms {l : List Region} (h : Touches l s t) (hterm : ∀ k, (t.term k).cfg = (s.term k).cfg
      ∧ (t.term k).ring = (s.term k).ring)
    (e : l.all (fun r => (Region.terms :: noInputRegions).contains r) = true := by decide) : SameInputs s t :=
  have h := h.weaken (l := .terms :: noInputRegions) e
  ⟨h.weaken, by rw [h.notices_eq], fun k => (hterm k).1, fun k => (hterm k).2⟩

/-- A change of notices and lines alone, the refused flags kept. -/
theorem SameInputs.of_notices {l : List Region} (h : Touches l s t) (hrefused : t.notices.refused = s.notices.refused)
    (e : l.all (fun r => (Region.notices :: noInputRegions).contains r) = true := by decide) : SameInputs s t :=
  have h := h.weaken (l := .notices :: noInputRegions) e
  have hterm (k : Nat) : t.term k = s.term k := State.term_of_terms h.terms_eq k
  ⟨h.weaken, hrefused, fun k => by rw [hterm], fun k => by rw [hterm]⟩

theorem SameInputs.story (h : SameInputs s t) (n : Nat) : t.story n = s.story n :=
  State.story_of_stories h.touches.stories_eq n

theorem SameInputs.heldBy (h : SameInputs s t) (k : Nat) : t.heldBy k = s.heldBy k :=
  State.heldBy_of_stories h.touches.stories_eq k

theorem SameInputs.edition (h : SameInputs s t) (e : Nat) : t.edition e = s.edition e :=
  State.edition_of_clock h.touches.clock_eq e

theorem SameInputs.overrunMark (h : SameInputs s t) (k : Nat) : (t.term k).overrunMark = (s.term k).overrunMark := by
  unfold Terminal.overrunMark
  rw [h.ring]

theorem SameInputs.basketHeader (h : SameInputs s t) (b : Nat) : t.basketHeader b = s.basketHeader b := by
  unfold State.basketHeader
  simp only [State.basket_of_baskets h.touches.baskets_eq, h.story]

theorem SameInputs.faultedPages (h : SameInputs s t) : t.faultedPages = s.faultedPages := by
  unfold State.faultedPages
  rw [h.touches.pages_eq]

theorem SameInputs.commonInputs (h : SameInputs s t) : t.commonInputs = s.commonInputs := by
  unfold State.commonInputs
  rw [h.touches.clock_eq, h.faultedPages]

theorem SameInputs.ownInputs (h : SameInputs s t) (k : Nat) : t.ownInputs k = s.ownInputs k := by
  unfold State.ownInputs
  rw [h.cfg, h.basketHeader, h.heldBy, h.story, h.refused, h.overrunMark]

/-- R151: where no input changed, the composition marks nothing. -/
theorem SameInputs.compose (h : SameInputs s t) : State.compose s t false = t := by
  have hone (k : Nat) : State.composeOne s (false || decide (s.commonInputs ≠ t.commonInputs)) t k = t := by
    unfold State.composeOne
    simp [h.commonInputs, h.ownInputs]
  unfold State.compose
  split
  · exact List.foldlRecOn (motive := (· = t)) terminalNumbers _ rfl fun u hu k _ => by rw [hu, hone]
  · rfl

theorem SameInputs.finish (h : SameInputs s t) : finish s t = .next t := congrArg Host.Outcome.next h.compose

/-- R157, R158: a status row shows its inputs and nothing else. -/
theorem SameInputs.statusRow (h : SameInputs s t) (k : Nat) : t.statusRow k = s.statusRow k := by
  have hedition : t.editionField = s.editionField := by
    unfold State.editionField State.nearestEdition
    simp only [h.edition, h.touches.clock_eq]
  have hbasket (b : Nat) : t.basketField b = s.basketField b := by
    unfold State.basketField
    rw [h.basketHeader]
  have hstory (n : Nat) : t.storyField n = s.storyField n := by
    unfold State.storyField
    rw [h.story]
  have hdeadline : t.deadlineTerminal k = s.deadlineTerminal k := by
    unfold State.deadlineTerminal State.nearDeadline
    rw [h.heldBy, h.story, h.edition]
  have hflags : t.flagsField k = s.flagsField k := by
    unfold State.flagsField
    rw [hdeadline, h.overrunMark, h.refused, h.faultedPages]
  unfold State.statusRow
  rw [hedition, hbasket, hstory, hflags, h.heldBy, h.cfg]

theorem SameInputs.terminalOn (h : SameInputs s t) (n d : Nat) : t.terminalOn n d = s.terminalOn n d := by
  unfold State.terminalOn State.enabled
  simp only [h.cfg]

end

end Sys2Proof.Machine

/-! ## Lines and terminals by number -/

namespace Sys2Proof.Machine

theorem Table.mem_entries_iff {α : Type} {n : Nat} (t : Table n α) (d a : α) :
    a ∈ t.entries ↔ ∃ i, i < n ∧ t.at0 d i = a := by
  unfold Table.at0
  rw [List.mem_iff_getElem]
  constructor
  · rintro ⟨i, hi, rfl⟩
    exact ⟨i, by rwa [t.size_eq] at hi, by simp [hi]⟩
  · rintro ⟨i, hi, rfl⟩
    have hi : i < t.entries.length := by rwa [t.size_eq]
    exact ⟨i, hi, by simp [hi]⟩

/-- An entry written back leaves the table as it was. -/
theorem Table.set0_at0 {α : Type} {n : Nat} (t : Table n α) (d : α) (i : Nat) : t.set0 i (t.at0 d i) = t := by
  refine Table.ext_entries (List.ext_getElem (by simp [Table.set0]) fun j _ hj => ?_)
  simp only [Table.set0, Table.at0, List.getElem_set]
  split
  case isTrue h =>
    subst h
    simp [hj]
  case isFalse => rfl

section
variable {s t : State} {n m k : Nat}

@[simp] theorem State.line_charge (s : State) (o : MemOp) (n : Nat) : (s.charge o).line n = s.line n :=
  State.line_of_lines (State.charge_lines ..) n

@[simp] theorem State.term_charge (s : State) (o : MemOp) (k : Nat) : (s.charge o).term k = s.term k :=
  State.term_of_terms (State.charge_terms ..) k

theorem State.line_setLine_self (l : Line) (h : n < 16) : (s.setLine n l).line n = l := by
  rw [State.line_setLine, if_pos ⟨rfl, h⟩]

theorem State.line_setLine_ne (l : Line) (h : m ≠ n) : (s.setLine n l).line m = s.line m := by
  rw [State.line_setLine, if_neg fun c => h c.1.symm]

/-- A line written back leaves the state as it was, marks included. -/
theorem State.setLine_line (s : State) (n : Nat) : s.setLine n (s.line n) = s := by
  unfold State.setLine
  rw [if_pos rfl]
  unfold State.line
  rw [Table.set0_at0]
  rfl

theorem State.dropOf_of_cfg (h : ∀ k, (t.term k).cfg = (s.term k).cfg) : t.dropOf = s.dropOf :=
  funext fun k => congrArg TermCfg.drop (h k)

/-- The transmitter of an active line goes on in the event that gives it its record. -/
theorem State.runLine_active {l : Line} (h : activeUnder s.part l.cfg = true) :
    s.runLine n l = s.setLine n (l.pump s.dropOf) := by
  unfold State.runLine
  rw [if_pos h]

/-- A line that is active is one of the sixteen. -/
theorem State.lt_of_lineActive (h : s.lineActive n = true) : n < 16 := by
  refine Nat.lt_of_not_le fun hn => ?_
  have hoff : s.line n = Line.off := Table.at0_ge _ _ hn
  rw [State.lineActive, hoff] at h
  simp [activeUnder, Line.off, LineCfg.off] at h

/-- A step that gives line `n` a new record and does nothing else. -/
theorem State.setLine_step (hn : n < 16) (l : Line) : finish s (s.setLine n l) = .next (s.setLine n l)
    ∧ Only [.lines] s (s.setLine n l) ∧ (∀ m, m ≠ n → (s.setLine n l).line m = s.line m)
    ∧ (s.setLine n l).line n = l := by
  have htouches := s.setLine_touches n l
  have honly := Only.of_touches (l := [.lines]) htouches.weaken
  rw [State.compose_eq_of_touches htouches.weaken] at honly
  exact ⟨finish_of_touches htouches.weaken, honly, fun m hm => State.line_setLine_ne l hm, State.line_setLine_self l hn⟩

end

end Sys2Proof.Machine

/-! ## LINECLEAR (R143) -/

namespace Sys2Proof.Machine

/-- R143: the line with its three flags clear, its image marked. -/
def State.flagsCleared (s : State) (n : Nat) : State :=
  (s.setLine n { s.line n with error := false, overrun := false, brk := false }).mark (.line n)

theorem State.flagsCleared_touches (s : State) (n : Nat) : Touches [.lines, .marks] s (s.flagsCleared n) :=
  (s.setLine_touches n _).trans (State.mark_touches ..).weaken

theorem State.line_flagsCleared (s : State) (n m : Nat) : (s.flagsCleared n).line m
    = if n = m ∧ n < 16 then { s.line n with error := false, overrun := false, brk := false } else s.line m :=
  (State.line_of_lines (State.mark_lines ..) m).trans (State.line_setLine ..)

/-- R143: the note, which shows the flags that were set. -/
def Line.flagsNote (l : Line) : Nat := bitOf l.error 1 + bitOf l.overrun 2 + bitOf l.brk 4

/-- R143: the checks of a LINECLEAR and its effect. -/
theorem doLineclear_settled (r : Request) (s : State) :
    let o : ReqOutcome :=
      if s.isReporter r.requester = true ∨ s.isEditor r.requester = true then .rank
      else if 15 < r.u8 8 then .badArg
      else .done
    doLineclear r s = s.settle o (if o = .done then (s.line (r.u8 8)).flagsNote else 0) (s.flagsCleared (r.u8 8)) := by
  unfold doLineclear State.settle
  simp only [State.isSlotOrSystem_eq_false]
  split
  · rfl
  split
  · rfl
  · rfl

/-- Settles O49: the checks of R143 end in one outcome, and DONE shows the line with its flags clear. -/
theorem lineclearClearsTheFlags : Obligations.LineclearClearsTheFlags := by
  intro s h n l o was
  obtain ⟨t, ht, ha, honly, hdone, hrefused⟩ :=
    h.settled (l := [.lines]) (doLineclear_settled s.request _) (State.flagsCleared_touches ..).weaken
  have hline (ho : o = .done) (m : Nat) : t.line m
      = if n = m ∧ n < 16 then { l with error := false, overrun := false, brk := false } else s.line m := by
    rw [State.line_of_lines (hdone ho).lines_eq, State.line_flagsCleared, State.line_charge, State.line_charge]
  refine ⟨t, ht, ha, honly, fun ho => (hrefused ho).lines_eq, fun m hm => ?_, fun ho => ?_⟩
  · by_cases ho : o = .done
    · rw [hline ho, if_neg fun c => hm c.1.symm]
    · exact State.line_of_lines (hrefused ho).lines_eq m
  · obtain ⟨-, hchecked⟩ := check_passed ho
    obtain ⟨hn, -⟩ := check_passed hchecked
    exact ⟨by rw [hline ho, if_pos ⟨rfl, by omega⟩], (hdone ho).2.mem (State.mem_marks_mark ..)⟩

end Sys2Proof.Machine

/-! ## The transmitter after an event (R131, R133, R135, R136) -/

namespace Sys2Proof.Machine

/-! ### Frames on the wire (R131, R133, R179) -/

theorem parityBits_eq (p : Parity) (ones : Nat) : parityBits p ones = (match p with
    | .off => []
    | .even => [decide (ones % 2 = 1)]
    | .odd => [decide (ones % 2 = 0)]) := by
  cases p <;> rfl

theorem LineCfg.bits_eq_wireBits (c : LineCfg) (mark : Bool) (data : Byte) : c.bits mark data = wireBits c mark data := by
  have hcount (l : List Bool) : l.count true = (l.filter (fun b => b)).length := by
    rw [List.count_eq_countP, List.countP_eq_length_filter]
    simp
  have hstops : List.replicate (if c.twoStop = true then 2 else 1) true = if c.twoStop = true then [true, true] else [true] := by
    cases c.twoStop <;> rfl
  unfold LineCfg.bits
  dsimp only
  rw [hcount, parityBits_eq, hstops]
  rfl

theorem LineCfg.frame_poll (c : LineCfg) (d : Nat) : c.frame true (byteOf (0x40 + d)) .poll = pollFrame c d := by
  unfold LineCfg.frame pollFrame
  rw [LineCfg.bits_eq_wireBits]
  rfl

theorem rowByte_eq (q : RowRec) (k : Nat) :
    rowByte q k = ([0x11#8, BitVec.ofNat 8 q.row] ++ q.snapshot).getD k 0#8 := by
  match k with
  | 0 => rfl
  | 1 => rfl
  | k + 2 => rfl

theorem rowFrame_eq_wireFrame (c : LineCfg) (d : Nat) (q : RowRec) (k : Nat) : rowFrame c d q k = wireFrame c d q k := by
  have hlast (m : Nat) : (k + 1 == m + 1) = decide (k = m) := decide_eq_decide.mpr Nat.succ_inj
  unfold rowFrame wireFrame LineCfg.frame
  simp only [LineCfg.bits_eq_wireBits, rowByte_eq, hlast 81, hlast 82]
  rfl

/-! ### One frame produced, one frame moved (R133) -/

section
variable {l : Line} {d : Nat → Nat} {f : TxFrame} {q : RowRec} {rest : List RowRec}

/-- A row that has produced its last frame, or holds one, produces nothing; nor does a line that sends no row. -/
theorem Line.produce_settled (h : l.tx = .row → l.hold ≠ none ∨ rowFrames l.cfg.mode ≤ l.rowPos) : l.produce d = l := by
  unfold Line.produce
  split
  case h_1 htx hhold _ => rw [if_neg (Nat.not_lt.mpr ((h htx).resolve_left (absurd hhold)))]
  case h_2 => rfl

theorem Line.produce_not_row (h : l.tx ≠ .row) : l.produce d = l := Line.produce_settled fun htx => absurd htx h

theorem Line.produce_held (h : l.hold = some f) : l.produce d = l := Line.produce_settled fun _ => .inl (by simp [h])

theorem Line.produce_row (htx : l.tx = .row) (hhold : l.hold = none) (hqueue : l.queue = q :: rest) : l.produce d
    = if l.rowPos < rowFrames l.cfg.mode then
        { l with hold := some (wireFrame l.cfg (d q.terminal) q l.rowPos), rowPos := l.rowPos + 1 }
      else l := by
  rw [← rowFrame_eq_wireFrame]
  unfold Line.produce
  rw [htx, hhold, hqueue]

/-- What producing a frame changes of a line. -/
theorem Line.produce_record (l : Line) (d : Nat → Nat) : ∃ hold pos, l.produce d = { l with hold := hold, rowPos := pos } := by
  unfold Line.produce
  split
  · split
    · exact ⟨_, _, rfl⟩
    · exact ⟨_, _, rfl⟩
  · exact ⟨_, _, rfl⟩

theorem Line.move_empty (h : l.hold = none) : l.move = l := by
  unfold Line.move
  rw [h]

theorem Line.move_full (h : l.shift = some f) : l.move = l := by
  unfold Line.move
  rw [h]
  cases l.hold <;> rfl

theorem Line.move_held (hhold : l.hold = some f) (hshift : l.shift = none) :
    l.move = { l with hold := none, shift := some f } := by
  unfold Line.move
  rw [hhold, hshift]

/-- What a frame that moves changes of a line. -/
theorem Line.move_record (l : Line) : ∃ hold shift, l.move = { l with hold := hold, shift := shift } := by
  cases hhold : l.hold with
  | none => exact ⟨_, _, Line.move_empty hhold⟩
  | some f =>
    cases hshift : l.shift with
    | none => exact ⟨_, _, Line.move_held hhold hshift⟩
    | some g => exact ⟨_, _, Line.move_full hshift⟩

/-! ### The pump: IDLE is left, a frame is produced, it may move, and the next is produced (R133, R135) -/

theorem Line.leaveIdle_busy (h : l.tx ≠ .idle) : l.leaveIdle = l := if_neg h

theorem Line.pump_busy (h : l.tx ≠ .idle) : l.pump d = ((l.produce d).move).produce d := by
  unfold Line.pump
  rw [Line.leaveIdle_busy h]

/-- Between rows there is nothing to produce: a frame held may move, and nothing else. -/
theorem Line.pump_between (hidle : l.tx ≠ .idle) (hrow : l.tx ≠ .row) : l.pump d = l.move := by
  obtain ⟨_, _, hmove⟩ := l.move_record
  rw [Line.pump_busy hidle, Line.produce_not_row hrow, Line.produce_not_row (by rw [hmove]; exact hrow)]

theorem rowFrames_eq (m : LineMode) : rowFrames m = if m = .direct then 82 else 83 := by
  cases m <;> rfl

/-- A line that is sending, polling or waiting, and is settled, goes on as it was. -/
theorem Line.pump_settled (hidle : l.tx ≠ .idle) (h : Settled l) : l.pump d = l := by
  obtain ⟨hmove, hrow⟩ := h
  have hproduce : l.produce d = l := Line.produce_settled (by rwa [rowFrames_eq])
  have hmoved : l.move = l := by
    cases hshift : l.shift with
    | none => exact Line.move_empty (hmove.resolve_right (absurd hshift))
    | some f => exact Line.move_full hshift
  rw [Line.pump_busy hidle, hproduce, hmoved, hproduce]

/-- R133: the frame that was left to be shifted out, or the row's frame before, has gone: the frame held is sent and the row goes
on. -/
theorem Line.pump_row (htx : l.tx = .row) (hqueue : l.queue = q :: rest) (hhold : l.hold = some f) (hshift : l.shift = none) :
    l.pump d = if l.rowPos < rowFrames l.cfg.mode then
        { l with shift := some f, hold := some (wireFrame l.cfg (d q.terminal) q l.rowPos), rowPos := l.rowPos + 1 }
      else { l with shift := some f, hold := none } := by
  rw [Line.pump_busy (by simp [htx]), Line.produce_held hhold, Line.move_held hhold hshift]
  exact Line.produce_row (l := { l with hold := none, shift := some f }) htx rfl hqueue

/-- R133: the row begun, with its first frame held. -/
def Line.begun (l : Line) (f : TxFrame) : Line := { l with tx := .row, rowPos := 1, hold := some f }

theorem Line.pump_beginRow (hhold : l.hold = none) : RowBegun d l (l.beginRow.pump d) := by
  intro q rest hqueue frame
  have hfirst : 0 < rowFrames l.cfg.mode ∧ 1 < rowFrames l.cfg.mode := by cases l.cfg.mode <;> decide
  have hproduce : l.beginRow.produce d = l.begun (frame 0) :=
    (Line.produce_row (l := l.beginRow) rfl hhold hqueue).trans (if_pos hfirst.1)
  have hpump : l.beginRow.pump d = (l.begun (frame 0)).pump d := by
    rw [Line.pump_busy (by simp [Line.beginRow]), Line.pump_busy (by simp [Line.begun]), hproduce,
      Line.produce_held (l := l.begun (frame 0)) rfl]
  rw [hpump]
  refine ⟨fun hshift => ?_, fun hshift => ?_⟩
  · exact (Line.pump_row (l := l.begun (frame 0)) rfl hqueue rfl hshift).trans (if_pos hfirst.2)
  · exact Line.pump_settled (l := l.begun (frame 0)) (by simp [Line.begun]) ⟨.inr hshift, fun _ => .inl (by simp [Line.begun])⟩

/-! ### The poll step (R136) -/

theorem Line.hasDrops_eq_false : l.hasDrops = false ↔ ∀ k, k < 4 → l.drops.at0 none k = none := by
  unfold Line.hasDrops
  rw [List.any_eq_false]
  constructor
  · intro h k hk
    have := h _ ((Table.mem_entries_iff l.drops none _).mpr ⟨k, hk, rfl⟩)
    simpa using this
  · intro h x hx
    obtain ⟨k, hk, rfl⟩ := (Table.mem_entries_iff l.drops none _).mp hx
    simp [h k hk]

theorem dropEligible_eq_pollable (r : Option Drop) : dropEligible r = Pollable r := by
  cases r <;> rfl

theorem restAfterPoll_eq_restedDrop (polled : Option Nat) (k : Nat) (r : Option Drop) :
    restAfterPoll polled k r = restedDrop polled k r := by
  cases r with
  | none => rfl
  | some r =>
    unfold restAfterPoll restedDrop
    simp only [Option.map_some, apply_ite some]

theorem Line.nextDrop_eq (l : Line) :
    l.nextDrop = (pollOrder l).find? (fun k => Pollable (l.drops.at0 none k)) := by
  simp only [Line.nextDrop, dropEligible_eq_pollable, pollOrder]

theorem Line.restDrops_at0 (polled : Option Nat) {k : Nat} (hk : k < 4) :
    (l.restDrops polled).at0 none k = restedDrop polled k (l.drops.at0 none k) := by
  unfold Line.restDrops
  rw [Table.at0_build _ _ hk, restAfterPoll_eq_restedDrop]

/-- R136: a real poll of drop `k`, its POLL frame held. -/
def Line.realPoll (l : Line) (k : Nat) : Line :=
  { l with tx := .poll, drops := l.restDrops (some k), pollPtr := some k, hold := some (pollFrame l.cfg k) }

/-- R136: a vacant poll. -/
def Line.vacantPoll (l : Line) : Line := { l with tx := .vacant, drops := l.restDrops none }

theorem Line.pollStep_no_drops (h : l.hasDrops = false) : l.pollStep = { l with tx := .idle } := if_pos h

theorem Line.pollStep_real {k : Nat} (h : l.hasDrops = true) (hnext : l.nextDrop = some k) : l.pollStep = l.realPoll k := by
  unfold Line.pollStep
  rw [if_neg (by simp [h]), hnext]
  simp only [LineCfg.frame_poll]
  rfl

theorem Line.pollStep_vacant (h : l.hasDrops = true) (hnext : l.nextDrop = none) : l.pollStep = l.vacantPoll := by
  unfold Line.pollStep
  rw [if_neg (by simp [h]), hnext]
  rfl

theorem Line.pump_realPoll (k : Nat) : (l.realPoll k).pump d = { l with
    tx := .poll
    drops := l.restDrops (some k)
    pollPtr := some k
    shift := if l.shift = none then some (pollFrame l.cfg k) else l.shift
    hold := if l.shift = none then none else some (pollFrame l.cfg k) } := by
  rw [Line.pump_between (by simp [Line.realPoll]) (by simp [Line.realPoll])]
  by_cases hshift : l.shift = none
  · simp only [if_pos hshift]
    exact Line.move_held (l := l.realPoll k) rfl hshift
  · obtain ⟨f, hf⟩ := Option.ne_none_iff_exists'.mp hshift
    simp only [if_neg hshift]
    exact Line.move_full (l := l.realPoll k) hf

theorem Line.pump_vacantPoll (hhold : l.hold = none) : l.vacantPoll.pump d = l.vacantPoll := by
  rw [Line.pump_between (by simp [Line.vacantPoll]) (by simp [Line.vacantPoll]), Line.move_empty (by exact hhold)]

/-- An IDLE line with nothing to begin stays as it is. -/
theorem Line.pump_resting (htx : l.tx = .idle) (hhold : l.hold = none) (h : l.leaveIdle = l) : l.pump d = l := by
  have hproduce : l.produce d = l := Line.produce_not_row (by simp [htx])
  unfold Line.pump
  rw [h, hproduce, Line.move_empty hhold, hproduce]

theorem Line.leaveIdle_no_drops (h : l.hasDrops = false) (hmode : l.cfg.mode = .shared ∨ l.queue = []) :
    l.leaveIdle = l := by
  unfold Line.leaveIdle
  split
  · cases hm : l.cfg.mode with
    | direct => exact if_pos (hmode.resolve_left (by simp [hm]))
    | shared => exact if_neg (by simp [h])
  · rfl

theorem Line.pump_pollStep (hhold : l.hold = none) (hmode : l.cfg.mode = .shared ∨ l.queue = []) :
    PollStepped l (l.pollStep.pump d) := by
  cases hdrops : l.hasDrops with
  | false =>
    have hnone := Line.hasDrops_eq_false.mp hdrops
    refine ⟨fun _ => ?_, fun ⟨k, hk, hsome⟩ => absurd (hnone k hk) hsome⟩
    rw [Line.pollStep_no_drops hdrops]
    exact Line.pump_resting rfl hhold (Line.leaveIdle_no_drops (l := { l with tx := .idle }) hdrops hmode)
  | true =>
    refine ⟨fun hnone => ?_, fun _ => ?_⟩
    · rw [Line.hasDrops_eq_false.mpr hnone] at hdrops
      cases hdrops
    rw [← Line.nextDrop_eq]
    cases hnext : l.nextDrop with
    | some k =>
      rw [Line.pollStep_real hdrops hnext, Line.pump_realPoll]
      exact ⟨fun j hj => Line.restDrops_at0 _ hj, rfl⟩
    | none =>
      rw [Line.pollStep_vacant hdrops hnext, Line.pump_vacantPoll hhold]
      refine ⟨fun j hj => Line.restDrops_at0 _ hj, ?_⟩
      have hshift : (if l.shift = none then none else l.shift) = l.shift := by
        split
        case isTrue h => exact h.symm
        case isFalse => rfl
      simp only [Option.map_none, hshift, ite_self]
      show l.vacantPoll = { l.vacantPoll with hold := none }
      rw [← show l.vacantPoll.hold = none from hhold]

/-! ### After a row, after a poll, and from IDLE (R135) -/

theorem Line.pump_afterPoll (hhold : l.hold = none) : PollOver d l (l.afterPoll.pump d) := by
  unfold PollOver Line.afterPoll
  split
  case isTrue hqueue => exact Line.pump_pollStep hhold (.inr hqueue)
  case isFalse => exact Line.pump_beginRow hhold

theorem Line.pump_afterRow (hhold : l.hold = none) : RowOver d l (l.afterRow.pump d) := by
  unfold RowOver Line.afterRow
  cases hmode : l.cfg.mode with
  | direct =>
    dsimp only
    split
    case isTrue hqueue =>
      refine Line.pump_resting rfl hhold ?_
      simp [Line.leaveIdle, hmode, hqueue]
    case isFalse => exact Line.pump_beginRow hhold
  | shared => exact Line.pump_pollStep hhold (.inl hmode)

theorem Line.leaveIdle_afterRow (htx : l.tx = .idle) : l.leaveIdle = l.afterRow.leaveIdle := by
  have hidle : { l with tx := .idle } = l := by rw [← htx]
  unfold Line.afterRow
  cases hmode : l.cfg.mode with
  | direct =>
    dsimp only
    split
    case isTrue => rw [hidle]
    case isFalse hqueue => simp [Line.leaveIdle, htx, hmode, hqueue, Line.beginRow]
  | shared =>
    dsimp only
    cases hdrops : l.hasDrops with
    | false => rw [Line.pollStep_no_drops hdrops, hidle]
    | true =>
      have hbusy : l.pollStep.tx ≠ .idle := by
        cases hnext : l.nextDrop with
        | none => simp [Line.pollStep_vacant hdrops hnext, Line.vacantPoll]
        | some k => simp [Line.pollStep_real hdrops hnext, Line.realPoll]
      rw [Line.leaveIdle_busy hbusy]
      simp [Line.leaveIdle, htx, hmode, hdrops]

theorem Line.pump_idle (htx : l.tx = .idle) (hhold : l.hold = none) : RowOver d l (l.pump d) := by
  have hpump : l.pump d = l.afterRow.pump d := by
    unfold Line.pump
    rw [Line.leaveIdle_afterRow htx]
  rw [hpump]
  exact Line.pump_afterRow hhold

end

end Sys2Proof.Machine

/-! ## LINE_SHIFT_COMPLETION and VACANT_POLL_END (R131 to R136) -/

namespace Sys2Proof.Machine

section
variable {s : State} {n : Fin 16} {f : TxFrame}

theorem Line.txd_shifting {l : Line} (h : l.shift = some f) : l.txd = f.bits := by
  unfold Line.txd
  rw [h]

theorem Line.txd_marking {l : Line} (h : l.shift = none) : l.txd = [true] := by
  unfold Line.txd
  rw [h]

theorem Line.cfg_pollStep (l : Line) : l.pollStep.cfg = l.cfg := by
  unfold Line.pollStep
  split
  · rfl
  · cases l.nextDrop <;> rfl

theorem Line.cfg_afterPoll (l : Line) : l.afterPoll.cfg = l.cfg := by
  unfold Line.afterPoll
  split
  · exact l.cfg_pollStep
  · rfl

theorem Line.cfg_afterRow (l : Line) : l.afterRow.cfg = l.cfg := by
  unfold Line.afterRow
  cases l.cfg.mode with
  | direct =>
    dsimp only
    split
    · rfl
    · rfl
  | shared => exact l.cfg_pollStep

theorem Line.cfg_shifted (l : Line) (k : TxKind) : (l.shifted k).cfg = l.cfg := by
  cases k with
  | row last =>
    cases last with
    | false => rfl
    | true => exact Line.cfg_afterRow _
  | poll => rfl
  | orphan => rfl

/-- R133: what the line is after the shift completion of `f`. -/
def State.lineShifted (s : State) (n : Fin 16) (f : TxFrame) : Line :=
  let l : Line := { s.line n.val with shift := none }
  if s.lineActive n.val = true then (l.shifted f.kind).pump s.dropOf else l

theorem exec_lineShiftCompletion (h : (s.line n.val).shift = some f) :
    exec (.lineShiftCompletion n) s = .next (s.setLine n.val (s.lineShifted n f)) := by
  refine Eq.trans ?_ (State.setLine_step n.isLt (s.lineShifted n f)).1
  show finish s _ = _
  unfold State.lineShifted
  simp only [h]
  split
  case isTrue hactive =>
    refine congrArg (finish s) (State.runLine_active ?_)
    rw [Line.cfg_shifted]
    exact hactive
  case isFalse => rfl

theorem exec_vacantPollEnd (hactive : s.lineActive n.val = true) (htx : (s.line n.val).tx = .vacant) :
    exec (.vacantPollEnd n) s = .next (s.setLine n.val ((s.line n.val).afterPoll.pump s.dropOf)) := by
  refine Eq.trans ?_ (State.setLine_step n.isLt _).1
  show finish s _ = _
  rw [if_pos ⟨hactive, htx⟩, State.runLine_active]
  rw [Line.cfg_afterPoll]
  exact hactive

end

/-- Settles O50, by what each kind of frame leaves the transmitter to do. -/
theorem rowsAndPollsGoOnTheWire : Obligations.RowsAndPollsGoOnTheWire := by
  intro s n l dropOf
  refine ⟨fun f hf => ⟨Line.txd_shifting hf, ?_⟩, fun hactive htx hhold _ _ => ?vacant, Line.txd_marking⟩
  case vacant =>
    obtain ⟨-, honly, hothers, hline⟩ := State.setLine_step n.isLt (l.afterPoll.pump s.dropOf)
    exact ⟨_, exec_vacantPollEnd hactive htx, honly, hothers, hline.symm ▸ Line.pump_afterPoll hhold⟩
  obtain ⟨-, honly, hothers, hline⟩ := State.setLine_step n.isLt (s.lineShifted n f)
  refine ⟨_, exec_lineShiftCompletion hf, honly, hothers, fun hoff => ?off, fun hactive => ?on⟩
  case off => rw [hline, State.lineShifted, if_neg (by simp [hoff])]
  rw [hline, State.lineShifted, if_pos hactive]
  have hrowFrames : (if l.cfg.mode = .direct then 82 else 83) = rowFrames l.cfg.mode := (rowFrames_eq _).symm
  refine ⟨fun q rest h hkind htx hqueue hhold => ?row, fun hkind hhold htx => ?last, fun hkind hhold => ?poll,
    fun hkind htx => ⟨fun h hhold hidle => ?held, fun hhold hidle => ?empty, fun hhold hidle => ?idle⟩⟩
  case row =>
    have hshifted (l : Line) : l.shifted f.kind = l := by rcases hkind with hkind | hkind <;> rw [hkind] <;> rfl
    rw [hshifted, hrowFrames]
    exact Line.pump_row (l := { l with shift := none }) htx hqueue hhold rfl
  case last =>
    rw [hkind]
    have hover := Line.pump_afterRow (l := { l with shift := none, queue := l.queue.tail }) (d := s.dropOf) hhold
    unfold RowOver at hover
    refine ⟨fun hmode => ?_, fun hmode => ?_⟩
    · simp only [hmode] at hover
      exact ⟨fun hqueue => by rwa [if_pos hqueue] at hover, fun hqueue => by rwa [if_neg hqueue] at hover⟩
    · simp only [hmode] at hover
      exact hover
  case poll =>
    rw [hkind]
    exact Line.pump_settled (by simp [Line.shifted]) ⟨.inl hhold, by simp [Line.shifted]⟩
  all_goals rw [hkind]
  case held =>
    refine (Line.pump_between (l := { l with shift := none }) hidle htx).trans ?_
    exact Line.move_held (l := { l with shift := none }) hhold rfl
  case empty =>
    exact Line.pump_settled (l := { l with shift := none }) hidle ⟨.inl hhold, fun hrow => absurd hrow htx⟩
  case idle => exact Line.pump_idle (l := { l with shift := none }) hidle hhold

end Sys2Proof.Machine

/-! ## Line error flags and the notices they write (R143) -/

namespace Sys2Proof.Machine

/-- R143: the terminal that a LINE notice names, for line `n` with record `l`. -/
def State.namedTerminal (s : State) (n : Nat) (l : Line) : Option Nat :=
  if l.cfg.mode = .direct then s.terminalOn n 0
  else if l.tx = .wait ∨ l.tx = .answer then l.pollPtr.bind (s.terminalOn n)
  else none

theorem Line.polling_iff {l : Line} : l.polling = true ↔ l.tx = .wait ∨ l.tx = .answer := by
  simp [Line.polling]

theorem State.lineNoticeTerminal_eq (s : State) (n : Nat) : s.lineNoticeTerminal n = s.namedTerminal n (s.line n) := by
  unfold State.lineNoticeTerminal State.namedTerminal
  simp only [Line.polling_iff]
  cases (s.line n).cfg.mode <;> rfl

theorem Line.withFlag_of_set {l : Line} {f : LineFlag} (h : l.flag f = true) : l.withFlag f = l := by
  cases f with
  | error => exact congrArg (fun b => { l with error := b }) h.symm
  | overrun => exact congrArg (fun b => { l with overrun := b }) h.symm
  | brk => exact congrArg (fun b => { l with brk := b }) h.symm

theorem State.lineNoted_notices (s : State) (n : Nat) (was : Bool) (c : Cause) (k : Option Nat) :
    (s.lineNoted n was c k).notices
      = if was then s.notices else s.notices.handed { s.notice .line c with terminal := k, unit := some n } := by
  unfold State.lineNoted
  split
  · rfl
  · rw [State.notices_notify]

theorem State.lineNoted_touches (s : State) (n : Nat) (was : Bool) (c : Cause) (k : Option Nat) :
    Touches [.notices] s (s.lineNoted n was c k) :=
  Touches.ite (Touches.refl ..) (State.notify_touches ..)

theorem NoticeWriter.handed_refused (w : NoticeWriter) (n : Notice) : (w.handed n).refused = w.refused := by
  unfold NoticeWriter.handed
  split <;> rfl

/-- An event of line `n` alone: it leads from `s` to `t`, where the line's record is `l` and the notice writer is `w`. -/
structure LineEvent (s : State) (n : Nat) (l : Line) (w : NoticeWriter) (t : State) : Prop where
  touches : Touches [.lines, .notices, .marks] s t
  line : t.line n = l
  others : ∀ m, m ≠ n → t.line m = s.line m
  notices : t.notices = w
  refused : w.refused = s.notices.refused

section
variable {s t : State} {n : Nat} {l : Line} {w : NoticeWriter}

theorem LineEvent.start (s : State) (n : Nat) : LineEvent s n (s.line n) s.notices s :=
  ⟨Touches.refl .., rfl, fun _ _ => rfl, rfl, rfl⟩

theorem LineEvent.sameInputs (h : LineEvent s n l w t) : SameInputs s t :=
  .of_notices h.touches (h.notices ▸ h.refused)

theorem LineEvent.setLine (h : LineEvent s n l w t) (hn : n < 16) (l' : Line) :
    LineEvent s n l' w (t.setLine n l') where
  touches := h.touches.trans (State.setLine_touches ..).weaken
  line := State.line_setLine_self l' hn
  others := fun m hm => (State.line_setLine_ne l' hm).trans (h.others m hm)
  notices := (State.setLine_notices ..).trans h.notices
  refused := h.refused

theorem LineEvent.notify (h : LineEvent s n l w t) (x : Notice) : LineEvent s n l (w.handed x) (t.notify x) where
  touches := h.touches.trans (State.notify_touches ..).weaken
  line := (State.line_of_lines (State.notify_lines ..) n).trans h.line
  others := fun m hm => (State.line_of_lines (State.notify_lines ..) m).trans (h.others m hm)
  notices := (State.notices_notify ..).trans (h.notices ▸ rfl)
  refused := (NoticeWriter.handed_refused ..).trans h.refused

theorem State.setLineFlag_set {f : LineFlag} (h : (t.line n).flag f = true) (c : Cause) : t.setLineFlag n f c = t :=
  if_pos h

theorem State.setLineFlag_clear {f : LineFlag} (h : (t.line n).flag f = false) (c : Cause) : t.setLineFlag n f c
    = (t.setLine n ((t.line n).withFlag f)).notify
      { t.notice .line c with terminal := t.lineNoticeTerminal n, unit := some n } :=
  if_neg (by simp [h])

/-- R143: a flag is set, with the notice of a flag that was clear. -/
theorem LineEvent.setFlag (h : LineEvent s n l s.notices t) (hn : n < 16) (f : LineFlag) (c : Cause) :
    LineEvent s n (l.withFlag f) (s.lineNoted n (l.flag f) c (s.namedTerminal n l)).notices (t.setLineFlag n f c) := by
  have hnamed : t.lineNoticeTerminal n = s.namedTerminal n l := by
    rw [State.lineNoticeTerminal_eq, h.line]
    unfold State.namedTerminal
    simp only [funext (h.sameInputs.terminalOn n)]
  have hnotice : t.notice .line c = s.notice .line c := by
    unfold State.notice
    rw [h.touches.clock_eq]
  rw [State.lineNoted_notices]
  cases hflag : l.flag f with
  | true =>
    rw [State.setLineFlag_set (h.line ▸ hflag), Line.withFlag_of_set hflag]
    exact h
  | false =>
    rw [State.setLineFlag_clear (h.line ▸ hflag), h.line, hnamed, hnotice]
    exact (h.setLine hn (l.withFlag f)).notify _

/-- R143: the event that answers command `c` of a line. -/
def Becomes (s : State) (n : Nat) (c : Instr) (l : Line) (w : NoticeWriter) : Prop :=
  ∃ t, exec c s = .next t ∧ t.line n = l ∧ (∀ m, m ≠ n → t.line m = s.line m) ∧ t.notices = w
    ∧ Only [.lines, .notices] s t

theorem LineEvent.becomes {c : Instr} (h : LineEvent s n l w t) (hexec : exec c s = finish s t) : Becomes s n c l w := by
  have honly := Only.of_touches (l := [.lines, .notices]) h.touches.weaken
  rw [h.sameInputs.compose] at honly
  exact ⟨t, hexec.trans h.sameInputs.finish, h.line, h.others, h.notices, honly⟩

end

end Sys2Proof.Machine

/-! ## The end of a real poll (R137, R138) -/

namespace Sys2Proof.Machine

theorem Drop.polled_true (r : Drop) : r.polled true = r.answered := by
  unfold Drop.polled Drop.answered
  cases r.state with
  | up => rfl
  | down => rfl

theorem Drop.polled_false (r : Drop) : r.polled false = r.missed := by
  unfold Drop.polled Drop.missed
  cases r.state with
  | up => rfl
  | down => rfl

section
variable {s t u : State} {n d : Nat} {l : Line} {r r' : Drop} {w : NoticeWriter}

theorem State.terminalOn_range {k : Nat} (h : s.terminalOn n d = some k) : 1 ≤ k ∧ k ≤ 64 := by
  have hmem := List.mem_range'_1.mp (List.mem_of_find?_eq_some h)
  omega

theorem State.dropNoted_notices (s : State) (n : Nat) (r r' : Drop) (k : Option Nat) : (s.dropNoted n r r' k).notices
    = if r.state = r'.state then s.notices
      else s.notices.handed
        { s.notice .drop (if r'.state = .up then .up else .down) with terminal := k, unit := some n } := by
  unfold State.dropNoted
  split
  · rfl
  · rw [State.notices_notify]

/-- A DROP notice depends on the notice writer and the time alone. -/
theorem State.dropNoted_congr (hw : u.notices = t.notices) (hclock : u.clock = t.clock) (k : Option Nat) :
    (u.dropNoted n r r' k).notices = (t.dropNoted n r r' k).notices := by
  simp only [State.dropNoted_notices, State.notice, hw, hclock]

/-- R138: the repaint of the terminal whose drop comes UP, on top of the notice. -/
theorem State.dropChanged_eq (s : State) (n d : Nat) (r r' : Drop) : s.dropChanged n d r r'
    = match s.terminalOn n d with
      | some k => if r.state = .down ∧ r'.state = .up then (s.dropNoted n r r' (some k)).markAllDirty k
          else s.dropNoted n r r' (some k)
      | none => s.dropNoted n r r' none := by
  unfold State.dropChanged State.dropNoted
  cases s.terminalOn n d <;> cases r.state <;> cases r'.state <;> rfl

theorem State.dropNoted_terms (s : State) (n : Nat) (r r' : Drop) (k : Option Nat) : (s.dropNoted n r r' k).terms = s.terms := by
  unfold State.dropNoted
  split
  · rfl
  · exact State.notify_terms ..

theorem State.dropChanged_notices (s : State) (n d : Nat) (r r' : Drop) :
    (s.dropChanged n d r r').notices = (s.dropNoted n r r' (s.terminalOn n d)).notices := by
  rw [State.dropChanged_eq]
  cases s.terminalOn n d with
  | none => rfl
  | some k =>
    dsimp only
    split
    · exact State.markAllDirty_notices ..
    · rfl

theorem State.term_dropChanged (s : State) (n d : Nat) (r r' : Drop) (j : Nat) : (s.dropChanged n d r r').term j
    = if r.state = .down ∧ r'.state = .up ∧ s.terminalOn n d = some j then { s.term j with dirty := Table.fill 24 true }
      else s.term j := by
  have hnoted (k : Option Nat) (i : Nat) : (s.dropNoted n r r' k).term i = s.term i :=
    State.term_of_terms (s.dropNoted_terms n r r' k) i
  rw [State.dropChanged_eq]
  cases hk : s.terminalOn n d with
  | none => simp [hnoted]
  | some k =>
    have hrange := State.terminalOn_range hk
    dsimp only
    by_cases hup : r.state = .down ∧ r'.state = .up
    · rw [if_pos hup, State.markAllDirty, State.term_setTerm, hnoted]
      by_cases hj : k = j
      · rw [if_pos ⟨hj, hrange⟩, if_pos ⟨hup.1, hup.2, congrArg some hj⟩, hj]
      · rw [if_neg fun c => hj c.1, if_neg fun c => hj (Option.some.inj c.2.2), hnoted]
    · rw [if_neg hup, if_neg fun c => hup ⟨c.1, c.2.1⟩, hnoted]

theorem State.dropChanged_sameInputs (s : State) (n d : Nat) (r r' : Drop) : SameInputs s (s.dropChanged n d r r') where
  touches := (State.dropChanged_touches s n d r r').weaken
  refused := by
    rw [State.dropChanged_notices, State.dropNoted_notices]
    split
    · rfl
    · exact NoticeWriter.handed_refused ..
  cfg := fun j => by rw [State.term_dropChanged]; split <;> rfl
  ring := fun j => by rw [State.term_dropChanged]; split <;> rfl

/-- R138: line `n`, whose record was `l`, after the end of a poll of drop `d` that changed its record from `r` to `r'`, with the
notices of `u` before the DROP notice. -/
def PollEnded (s : State) (n d : Nat) (r : Drop) (l : Line) (r' : Drop) (u t : State) : Prop :=
  PollOver (fun j => (s.term j).cfg.drop) { l with drops := (s.line n).drops.set0 d (some r') } (t.line n)
    ∧ (∀ m, m ≠ n → t.line m = s.line m)
    ∧ t.notices = (u.dropNoted n r r' (s.terminalOn n d)).notices
    ∧ (∀ j, (t.term j).cfg = (s.term j).cfg ∧ (t.term j).ring = (s.term j).ring)
    ∧ (∀ j, (t.term j).lastTaken = (s.term j).lastTaken)
    ∧ (∀ j, (t.term j).dirty =
        if r.state = .down ∧ r'.state = .up ∧ s.terminalOn n d = some j then Table.fill 24 true else (s.term j).dirty)
    ∧ Frame [.lines, .notices, .terms, .marks] s t

theorem State.endPoll_eq (hptr : (s.line n).pollPtr = some d) (hdrop : (s.line n).drops.at0 none d = some r)
    (hactive : activeUnder s.part (s.line n).cfg = true) (answered : Bool) : s.endPoll n answered
    = (s.dropChanged n d r (r.polled answered)).setLine n
      (({ s.line n with drops := (s.line n).drops.set0 d (some (r.polled answered)) } : Line).afterPoll.pump s.dropOf) := by
  have hsame := s.dropChanged_sameInputs n d r (r.polled answered)
  unfold State.endPoll
  simp only [hptr, hdrop]
  rw [State.runLine_active, State.dropOf_of_cfg hsame.cfg]
  rw [Line.cfg_afterPoll, (State.dropChanged_touches s n d r _).part_eq]
  exact hactive

/-- R137, R138: the end of a poll in the event `t` of line `n`. -/
theorem LineEvent.endPoll (h : LineEvent s n l w t) (hactive : s.lineActive n = true) (hcfg : l.cfg = (s.line n).cfg)
    (hhold : l.hold = none) (hptr : l.pollPtr = some d) (hdrops : l.drops = (s.line n).drops)
    (hdrop : l.drops.at0 none d = some r) (answered : Bool) (hw : u.notices = w) (hclock : u.clock = s.clock) :
    finish s (t.endPoll n answered) = .next (t.endPoll n answered)
      ∧ PollEnded s n d r l (r.polled answered) u (t.endPoll n answered) := by
  obtain ⟨r', hr'⟩ : ∃ r', r.polled answered = r' := ⟨_, rfl⟩
  have hn : n < 16 := State.lt_of_lineActive hactive
  have hbefore : t.endPoll n answered = (t.dropChanged n d r r').setLine n
      (({ l with drops := l.drops.set0 d (some r') } : Line).afterPoll.pump s.dropOf) := by
    have hpart : activeUnder t.part (t.line n).cfg = true := by
      rw [h.touches.part_eq, h.line, hcfg]
      exact hactive
    rw [State.endPoll_eq (h.line ▸ hptr) (h.line ▸ hdrop) hpart, h.line, State.dropOf_of_cfg h.sameInputs.cfg, hr']
  have hterm (j : Nat) : (t.endPoll n answered).term j
      = if r.state = .down ∧ r'.state = .up ∧ s.terminalOn n d = some j then { s.term j with dirty := Table.fill 24 true }
        else s.term j := by
    rw [hbefore, State.term_of_terms (State.setLine_terms ..), State.term_dropChanged, h.sameInputs.terminalOn,
      State.term_of_terms h.touches.terms_eq]
  have htouches : Touches [.lines, .notices, .terms, .marks] s (t.endPoll n answered) :=
    h.touches.weaken.trans (State.endPoll_touches ..).weaken
  have hnotices : (t.endPoll n answered).notices = (u.dropNoted n r r' (s.terminalOn n d)).notices := by
    rw [hbefore, State.setLine_notices, State.dropChanged_notices, h.sameInputs.terminalOn]
    exact (State.dropNoted_congr (hw.trans h.notices.symm) (hclock.trans h.touches.clock_eq.symm) _).symm
  have hinputs : SameInputs s (t.endPoll n answered) := by
    rw [hbefore]
    exact (h.sameInputs.trans (t.dropChanged_sameInputs n d r r')).trans
      (.of_terms (State.setLine_touches ..) fun k => by simp [State.term_of_terms (State.setLine_terms ..)])
  rw [hr']
  refine ⟨hinputs.finish, ?after, fun m hm => ?others, hnotices, fun j => ⟨hinputs.cfg j, hinputs.ring j⟩, fun j => ?taken,
    fun j => ?dirty, htouches.1⟩
  case after =>
    rw [hbefore, State.line_setLine_self _ hn, ← hdrops]
    exact Line.pump_afterPoll hhold
  case others =>
    rw [hbefore, State.line_setLine_ne _ hm]
    exact (State.line_of_lines (State.dropChanged_touches t n d r r').lines_eq m).trans (h.others m hm)
  case taken =>
    rw [hterm]
    split <;> rfl
  case dirty =>
    rw [hterm]
    split <;> rfl

end

end Sys2Proof.Machine

/-! ## What the receiver takes in (R140) -/

namespace Sys2Proof.Machine

/-! ### The judgement of a completed frame (R131, R140) -/

section
variable {c : LineCfg} {f : RxFrame} {e : Cause}

theorem frameOnes_eq (c : LineCfg) (f : RxFrame) : frameOnes c f = onesOf c f := by
  have hmark : (if c.mode = .shared then (if f.mark then 1 else 0) else 0)
      = if c.mode = .shared ∧ f.mark = true then 1 else 0 := by
    cases c.mode <;> simp
  have hparity : (if c.parity = .off then 0 else (if f.parity then 1 else 0))
      = if c.parity ≠ .off ∧ f.parity = true then 1 else 0 := by
    cases c.parity <;> simp
  unfold frameOnes onesOf
  rw [hmark, hparity, List.countP_eq_length_filter]

theorem allSpacing_iff : allSpacing c f = true ↔ AllSpacing c f := by
  unfold allSpacing AllSpacing
  rw [frameOnes_eq]
  cases c.twoStop <;> simp [and_assoc]

theorem parityWrong_iff : parityWrong c f = true
    ↔ (c.parity = .even ∧ onesOf c f % 2 = 1) ∨ (c.parity = .odd ∧ onesOf c f % 2 = 0) := by
  unfold parityWrong
  rw [frameOnes_eq]
  cases c.parity <;> simp

theorem stopGood_eq_false : stopGood c f = false ↔ f.stop1 = false ∨ (c.twoStop = true ∧ f.stop2 = false) := by
  unfold stopGood
  cases f.stop1 <;> simp

theorem judgeFrame_spacing (h : AllSpacing c f) : judgeFrame c f = .spacing := if_pos (allSpacing_iff.mpr h)

theorem judgeFrame_good (h : ¬AllSpacing c f) (he : frameError c f = none) : judgeFrame c f = .good := by
  unfold frameError at he
  split at he
  case isTrue => cases he
  case isFalse hparity =>
    split at he
    case isTrue => cases he
    case isFalse hstop =>
      rw [← parityWrong_iff] at hparity
      rw [← stopGood_eq_false] at hstop
      unfold judgeFrame
      rw [if_neg (mt allSpacing_iff.mp h), if_neg hparity, if_neg (by simpa using hstop)]

theorem judgeFrame_error (h : ¬AllSpacing c f) (he : frameError c f = some e) :
    (judgeFrame c f ≠ .spacing ∧ judgeFrame c f ≠ .good) ∧ verdictCause (judgeFrame c f) = e := by
  unfold judgeFrame
  rw [if_neg (mt allSpacing_iff.mp h)]
  unfold frameError at he
  split at he
  case isTrue hparity =>
    cases he
    rw [if_pos (parityWrong_iff.mpr hparity)]
    decide
  case isFalse hparity =>
    split at he
    case isTrue hstop =>
      cases he
      rw [if_neg (mt parityWrong_iff.mp hparity), if_pos (by simpa using stopGood_eq_false.mpr hstop)]
      decide
    case isFalse => cases he

end

/-! ### The commands of a line, on an active line and on another -/

section
variable {s : State} {n : Fin 16} {f : RxFrame} {sol : Bool}

/-- The line with its receiver in another state. -/
def Line.listening (l : Line) (rx : RxState) : Line := { l with rx := rx }

theorem Line.startBit_looking {l : Line} (h : l.rx = .looking) : l.startBit
    = { l with rx := .frame l.polling, tx := if l.tx = .wait then .answer else l.tx } := by
  unfold Line.startBit
  rw [h]

theorem Line.startBit_busy {l : Line} (h : l.rx ≠ .looking) : l.startBit = l := by
  unfold Line.startBit
  cases hrx : l.rx with
  | looking => exact absurd hrx h
  | frame _ => rfl
  | spacing _ => rfl
  | resync => rfl

theorem exec_startBitDetect (hactive : s.lineActive n.val = true) :
    exec (.startBitDetect n) s = finish s (s.setLine n.val (s.line n.val).startBit) :=
  congrArg (finish s) (if_pos hactive)

theorem exec_receiveFrame (hactive : s.lineActive n.val = true) (hrx : (s.line n.val).rx = .frame sol) :
    exec (.receiveFrame n f) s = finish s (s.completeFrame n.val sol f) := by
  show finish s (if s.lineActive n.val = true then _ else s) = _
  rw [if_pos hactive, Line.startBit_busy (by simp [hrx]), State.setLine_line]
  simp only [hrx]

theorem exec_spacingFrameReturn (hactive : s.lineActive n.val = true) (hrx : (s.line n.val).rx = .spacing sol) :
    exec (.spacingFrameReturnToMarking n) s = finish s ((s.setLine n.val ((s.line n.val).listening .looking)).routeFrame
      n.val sol .framingError ⟨0#8, false, false, false, false⟩) := by
  show finish s (if s.lineActive n.val = true then _ else s) = _
  rw [if_pos hactive]
  simp only [hrx]
  rfl

theorem exec_breakDetect (hactive : s.lineActive n.val = true)
    (hrx : (s.line n.val).rx = .frame sol ∨ (s.line n.val).rx = .spacing sol) :
    exec (.breakDetect n) s = finish s (s.breakOn n.val) := by
  have hbusy : (s.line n.val).rx ≠ .looking ∧ (s.line n.val).rx ≠ .resync := by
    rcases hrx with hrx | hrx <;> simp [hrx]
  show finish s (if _ then _ else s) = _
  rw [if_pos ⟨hactive, hbusy.2⟩, Line.startBit_busy hbusy.1, State.setLine_line]

theorem exec_resyncEnd (hrx : (s.line n.val).rx = .resync) :
    exec (.resyncEnd n) s = finish s (s.setLine n.val ((s.line n.val).listening .looking)) :=
  congrArg (finish s) (if_pos hrx)

theorem exec_answerWindowExpiry (hactive : s.lineActive n.val = true) (htx : (s.line n.val).tx = .wait) :
    exec (.answerWindowExpiry n) s = finish s (s.endPoll n.val false) :=
  congrArg (finish s) (if_pos ⟨hactive, htx⟩)

theorem exec_answerGapExpiry (hactive : s.lineActive n.val = true) (htx : (s.line n.val).tx = .answer)
    (hrx : (s.line n.val).rx = .looking) (hframes : 0 < (s.line n.val).answerFrames) :
    exec (.answerGapExpiry n) s = finish s ((s.setLineFlag n.val .error .answer).endPoll n.val true) :=
  congrArg (finish s) (if_pos ⟨hactive, htx, hrx, hframes⟩)

/-- R131: a line that is not active takes nothing in. -/
theorem exec_inactive (hactive : s.lineActive n.val = false) :
    exec (.startBitDetect n) s = .next s ∧ exec (.receiveFrame n f) s = .next s ∧ exec (.breakDetect n) s = .next s
      ∧ exec (.spacingFrameReturnToMarking n) s = .next s := by
  have hoff : ¬s.lineActive n.val = true := by simp [hactive]
  exact ⟨(congrArg (finish s) (if_neg hoff)).trans (finish_self s), (congrArg (finish s) (if_neg hoff)).trans (finish_self s),
    (congrArg (finish s) (if_neg fun c => hoff c.1)).trans (finish_self s),
    (congrArg (finish s) (if_neg hoff)).trans (finish_self s)⟩

end

/-! ### A frame on its way (R137, R140, R141) -/

/-- R137: the line with one more frame of its answer completed. -/
def Line.counted (l : Line) (isKey : Bool) : Line :=
  { l with answerFrames := l.answerFrames + 1, answerKeys := l.answerKeys + (if isKey then 1 else 0), tx := .answer }

theorem Line.counted_answering {l : Line} (htx : l.tx = .answer) (isKey : Bool) : l.counted isKey
    = { l with answerFrames := l.answerFrames + 1, answerKeys := l.answerKeys + (if isKey then 1 else 0) } := by
  unfold Line.counted
  rw [← htx]

section
variable {s t : State} {n : Nat} {l : Line} {w : NoticeWriter} {f : RxFrame} {sol : Bool} {v : FrameVerdict}

theorem LineEvent.count (h : LineEvent s n l w t) (hn : n < 16) (isKey : Bool) :
    LineEvent s n (l.counted isKey) w (t.countAnswerFrame n isKey) := by
  have hset := h.setLine hn (l.counted isKey)
  unfold Line.counted at hset
  rw [← h.line] at hset
  rw [← h.line]
  exact hset

theorem State.completeFrame_spacing (h : AllSpacing (t.line n).cfg f) :
    t.completeFrame n sol f = t.setLine n ((t.line n).listening (.spacing sol)) := by
  unfold State.completeFrame
  rw [judgeFrame_spacing h]
  exact if_pos rfl

theorem State.completeFrame_judged (h : ¬AllSpacing (t.line n).cfg f) : t.completeFrame n sol f
    = (t.setLine n ((t.line n).listening .looking)).routeFrame n sol (judgeFrame (t.line n).cfg f) f := by
  unfold State.completeFrame
  refine if_neg fun hspacing => ?_
  cases he : frameError (t.line n).cfg f with
  | none => simp [judgeFrame_good h he] at hspacing
  | some e => exact (judgeFrame_error h he).1.1 hspacing

theorem State.routeFrame_direct (hmode : (t.line n).cfg.mode = .direct) : t.routeFrame n sol .good f
    = match t.terminalOn n 0 with
      | some k => t.deliverKey n k .key f.data
      | none => t := by
  unfold State.routeFrame
  rw [hmode]
  rfl

theorem State.routeFrame_answer (hmode : (t.line n).cfg.mode = .shared) (hsol : sol = true)
    (hpolled : (t.line n).polling = true) : t.routeFrame n sol .good f = t.answerFrame n f := by
  unfold State.routeFrame
  rw [hmode, hsol, hpolled]
  rfl

theorem State.routeFrame_bad_answer (hmode : (t.line n).cfg.mode = .shared) (hsol : sol = true)
    (hpolled : (t.line n).polling = true) (hv : v ≠ .good) :
    t.routeFrame n sol v f = (t.countAnswerFrame n false).setLineFlag n .error (verdictCause v) := by
  unfold State.routeFrame
  rw [hmode, hsol, hpolled]
  exact if_neg hv

/-- A frame that no answer waits for sets ERROR, unless it is a good frame on a DIRECT line. -/
theorem State.routeFrame_error (hanswer : ¬((t.line n).cfg.mode = .shared ∧ sol = true ∧ (t.line n).polling = true))
    (hv : v ≠ .good ∨ (t.line n).cfg.mode = .shared) :
    t.routeFrame n sol v f = t.setLineFlag n .error (verdictCause v) := by
  unfold State.routeFrame
  cases hmode : (t.line n).cfg.mode with
  | direct => exact if_neg (hv.resolve_right (by simp [hmode]))
  | shared => exact if_neg fun c => hanswer ⟨hmode, by simpa using c⟩

end

end Sys2Proof.Machine

/-! ## Polls end (R137, R138) -/

namespace Sys2Proof.Machine

section
variable {s t : State} {n d : Nat} {l : Line} {f : RxFrame}

theorem State.namedTerminal_polled (hmode : l.cfg.mode = .shared) (htx : l.tx = .wait ∨ l.tx = .answer)
    (hptr : l.pollPtr = some d) : s.namedTerminal n l = s.terminalOn n d := by
  unfold State.namedTerminal
  rw [if_neg (by simp [hmode]), if_pos htx, hptr]
  rfl

theorem State.namedTerminal_unpolled (hmode : l.cfg.mode = .shared) (htx : ¬(l.tx = .wait ∨ l.tx = .answer)) :
    s.namedTerminal n l = none := by
  unfold State.namedTerminal
  rw [if_neg (by simp [hmode]), if_neg htx]

/-- A completed frame leaves the line in its poll, of the same drop. -/
theorem State.namedTerminal_counted (htx : l.tx = .wait ∨ l.tx = .answer) (isKey : Bool) :
    s.namedTerminal n (l.counted isKey) = s.namedTerminal n l := by
  unfold State.namedTerminal
  rw [if_pos htx, if_pos (Or.inr rfl : (l.counted isKey).tx = .wait ∨ (l.counted isKey).tx = .answer)]
  rfl

theorem State.answerFrame_end (hmark : f.mark = true) :
    t.answerFrame n f = (t.countAnswerFrame n false).endPoll n true := if_pos hmark

theorem State.answerFrame_overlong (hmark : f.mark = false) (hkeys : 16 ≤ (t.line n).answerKeys) :
    t.answerFrame n f = ((t.countAnswerFrame n true).setLineFlag n .error .answer).endPoll n true :=
  (if_neg (by simp [hmark])).trans (if_pos hkeys)

theorem State.breakOn_polled (hmode : (t.line n).cfg.mode = .shared) (htx : (t.line n).tx = .wait ∨ (t.line n).tx = .answer) :
    t.breakOn n = ((t.setLine n ((t.line n).listening .resync)).setLineFlag n .brk .brk).endPoll n
      (decide (0 < (t.line n).answerFrames)) := by
  unfold State.breakOn
  rw [hmode]
  exact if_pos (Line.polling_iff.mpr htx)

end

/-- Settles O51: each end of a poll is the event of its flag and its notice, followed by the one end of every poll. -/
theorem pollsEnd : Obligations.PollsEnd := by
  intro s n d r l hactive hmode hhold _ hptr hdrop _ k dropOf ended
  have hn := n.isLt
  have hstart : LineEvent s n l s.notices s := .start s n
  have hlook := hstart.setLine hn (l.listening .looking)
  have hclock (was : Bool) (c : Cause) : (s.lineNoted n was c k).clock = s.clock := (State.lineNoted_touches ..).clock_eq
  refine ⟨fun htx => ?miss, fun htx hrx hframes => ?gap, fun f htx hrx herror hspacing => ?received,
    fun htx ⟨sol, hrx⟩ => ?broken⟩
  case miss =>
    obtain ⟨hfinish, hended⟩ := hstart.endPoll hactive rfl hhold hptr rfl hdrop false rfl rfl
    rw [Drop.polled_false] at hended
    exact ⟨_, (exec_answerWindowExpiry hactive htx).trans hfinish, hended⟩
  case gap =>
    have hflag := hstart.setFlag hn .error .answer
    rw [State.namedTerminal_polled hmode (.inr htx) hptr] at hflag
    obtain ⟨hfinish, hended⟩ := hflag.endPoll hactive rfl hhold hptr rfl hdrop true rfl (hclock _ _)
    rw [Drop.polled_true] at hended
    exact ⟨_, (exec_answerGapExpiry hactive htx hrx hframes).trans hfinish, hended⟩
  case received =>
    have hexec : exec (.receiveFrame n f) s = finish s ((s.setLine n (l.listening .looking)).answerFrame n f) := by
      rw [exec_receiveFrame hactive hrx, State.completeFrame_judged hspacing, judgeFrame_good hspacing herror,
        State.routeFrame_answer (by rw [hlook.line]; exact hmode) rfl
          (by rw [hlook.line]; exact Line.polling_iff.mpr (.inr htx))]
    refine ⟨fun hmark => ?_, fun hmark hkeys => ?_⟩
    · obtain ⟨hfinish, hended⟩ := (hlook.count hn false).endPoll hactive rfl hhold hptr rfl hdrop true rfl rfl
      rw [Drop.polled_true, Line.counted_answering (l := l.listening .looking) htx] at hended
      exact ⟨_, (hexec.trans (by rw [State.answerFrame_end hmark])).trans hfinish, hended⟩
    · have hflag := (hlook.count hn true).setFlag hn .error .answer
      rw [State.namedTerminal_polled (l := (l.listening .looking).counted true) hmode (.inr rfl) hptr] at hflag
      obtain ⟨hfinish, hended⟩ := hflag.endPoll hactive rfl hhold hptr rfl hdrop true rfl (hclock _ _)
      rw [Drop.polled_true, Line.counted_answering (l := l.listening .looking) htx] at hended
      refine ⟨_, (hexec.trans ?_).trans hfinish, hended⟩
      rw [State.answerFrame_overlong hmark (by rw [hlook.line]; exact hkeys)]
  case broken =>
    have hflag := (hstart.setLine hn (l.listening .resync)).setFlag hn .brk .brk
    rw [State.namedTerminal_polled (l := l.listening .resync) hmode (.inr htx) hptr] at hflag
    obtain ⟨hfinish, hended⟩ :=
      hflag.endPoll hactive rfl hhold hptr rfl hdrop (decide (0 < l.answerFrames)) rfl (hclock _ _)
    have hresult : r.polled (decide (0 < l.answerFrames)) = if 0 < l.answerFrames then r.answered else r.missed := by
      split
      case isTrue h => rw [decide_eq_true h, Drop.polled_true]
      case isFalse h => rw [decide_eq_false h, Drop.polled_false]
    rw [hresult] at hended
    exact ⟨_, ((exec_breakDetect hactive hrx).trans (by rw [State.breakOn_polled hmode (.inr htx)])).trans hfinish, hended⟩

end Sys2Proof.Machine

/-! ## Frames are received (R140 to R142) -/

namespace Sys2Proof.Machine

/-- R142: a key or break on line `n` for the terminal named, if there is one. -/
def State.deliverTo (t : State) (n : Nat) (named : Option Nat) (kind : KeyKind) (code : Byte) : State :=
  match named with
  | some k => t.deliverKey n k kind code
  | none => t

section
variable {s t : State} {n : Nat} {l : Line} {f : RxFrame} {sol : Bool} {v : FrameVerdict}

theorem State.routeFrame_direct_key (hmode : (t.line n).cfg.mode = .direct) :
    t.routeFrame n sol .good f = t.deliverTo n (t.terminalOn n 0) .key f.data := State.routeFrame_direct hmode

theorem State.answerFrame_key (hmark : f.mark = false) (hkeys : (t.line n).answerKeys < 16) : t.answerFrame n f
    = (t.countAnswerFrame n true).deliverTo n ((t.countAnswerFrame n true).polledTerminal n) .key f.data :=
  (if_neg (by simp [hmark])).trans (if_neg (Nat.not_le.mpr hkeys))

theorem State.breakOn_direct (hmode : (t.line n).cfg.mode = .direct) : t.breakOn n
    = (t.setLine n ((t.line n).listening .resync)).deliverTo n
      ((t.setLine n ((t.line n).listening .resync)).terminalOn n 0) .brk 0#8 := by
  unfold State.breakOn
  rw [hmode]
  rfl

theorem State.breakOn_unsolicited (hmode : (t.line n).cfg.mode = .shared)
    (htx : ¬((t.line n).tx = .wait ∨ (t.line n).tx = .answer)) :
    t.breakOn n = (t.setLine n ((t.line n).listening .resync)).setLineFlag n .brk .brk := by
  unfold State.breakOn
  rw [hmode]
  exact if_neg (mt Line.polling_iff.mp htx)

/-- R142: what a key or break for the terminal named does, when it comes to a line whose record is `l`. -/
theorem LineEvent.delivers {c : Instr} (h : LineEvent s n l s.notices t) (hn : n < 16) (kind : KeyKind) (code : Byte)
    (hexec : exec c s = finish s (t.deliverTo n (s.namedTerminal n l) kind code)) :
    (s.namedTerminal n l = none → Becomes s n c l s.notices)
      ∧ ∀ k, s.namedTerminal n l = some k →
        (l.buffer = none → Becomes s n c { l with buffer := some ⟨k, kind, code⟩ } s.notices)
        ∧ (l.buffer ≠ none → Becomes s n c { l with overrun := true }
            (s.lineNoted n l.overrun .overrun (s.namedTerminal n l)).notices) := by
  refine ⟨fun hnone => h.becomes (by rw [hexec, hnone]; rfl), fun k hk => ⟨fun hempty => ?_, fun hfull => ?_⟩⟩
  · refine (h.setLine hn { l with buffer := some ⟨k, kind, code⟩ }).becomes ?_
    rw [hexec, hk]
    unfold State.deliverTo State.deliverKey
    dsimp only
    rw [h.line, hempty]
  · obtain ⟨b, hb⟩ := Option.ne_none_iff_exists'.mp hfull
    refine (h.setFlag hn .overrun .overrun).becomes ?_
    rw [hexec, hk]
    unfold State.deliverTo State.deliverKey
    dsimp only
    rw [h.line, hb]

/-- R140, R141: what a frame that is not good does, when it completes on a line whose record is `l`. -/
theorem LineEvent.bad (h : LineEvent s n l s.notices t) (hn : n < 16) (hv : v ≠ .good) :
    LineEvent s n
      (Line.withFlag (if l.cfg.mode = .shared ∧ sol = true ∧ (l.tx = .wait ∨ l.tx = .answer) then l.counted false else l) .error)
      (s.lineNoted n l.error (verdictCause v) (s.namedTerminal n l)).notices (t.routeFrame n sol v f) := by
  have hline := h.line
  split
  case isTrue hanswer =>
    obtain ⟨hmode, hsol, htx⟩ := hanswer
    rw [State.routeFrame_bad_answer (hline ▸ hmode) hsol (hline ▸ Line.polling_iff.mpr htx) hv,
      ← State.namedTerminal_counted htx false]
    exact (h.count hn false).setFlag hn .error _
  case isFalse hanswer =>
    rw [State.routeFrame_error (by rwa [hline, Line.polling_iff]) (.inl hv)]
    exact h.setFlag hn .error _

end

/-- Settles O52, by the state of the receiver and the judgement of the frame. -/
theorem framesAreReceived : Obligations.FramesAreReceived := by
  intro s n f l polled named becomes delivers errs
  have hn := n.isLt
  have hstart : LineEvent s n l s.notices s := .start s n
  have hlook := hstart.setLine hn (l.listening .looking)
  have hresync := hstart.setLine hn (l.listening .resync)
  have hdirect (hmode : l.cfg.mode = .direct) : s.namedTerminal n l = s.terminalOn n 0 := if_pos hmode
  refine ⟨exec_inactive, fun hactive => ⟨fun hrx => ?start, fun sol hrx => ?frame, fun sol hrx => ?spacing⟩, fun hrx => ?resync⟩
  case start =>
    have hpolling : l.polling = decide polled := by
      rw [Bool.eq_iff_iff, Line.polling_iff, decide_eq_true_iff]
    have hset := hstart.setLine hn l.startBit
    rw [Line.startBit_looking hrx, hpolling] at hset
    exact hset.becomes ((exec_startBitDetect hactive).trans (by rw [Line.startBit_looking hrx, hpolling]))
  case resync => exact hlook.becomes (exec_resyncEnd hrx)
  case spacing =>
    refine ⟨(hlook.bad hn (by decide)).becomes (exec_spacingFrameReturn hactive hrx), fun hmode => ?_, fun hmode hunpolled => ?_⟩
    · refine hresync.delivers hn .brk 0#8 ?_
      rw [exec_breakDetect hactive (.inr hrx), State.breakOn_direct hmode, hresync.sameInputs.terminalOn, ← hdirect hmode]
      rfl
    · have hflag := hresync.setFlag hn .brk .brk
      rw [State.namedTerminal_unpolled (l := l.listening .resync) hmode hunpolled] at hflag
      exact hflag.becomes (by rw [exec_breakDetect hactive (.inr hrx), State.breakOn_unsolicited hmode hunpolled])
  case frame =>
    have hexec (hspacing : ¬AllSpacing l.cfg f) : exec (.receiveFrame n f) s
        = finish s ((s.setLine n (l.listening .looking)).routeFrame n sol (judgeFrame l.cfg f) f) := by
      rw [exec_receiveFrame hactive hrx, State.completeFrame_judged hspacing]
    have hmodeLook : ((s.setLine n (l.listening .looking)).line n).cfg.mode = l.cfg.mode := by rw [hlook.line]; rfl
    have hpollLook : ((s.setLine n (l.listening .looking)).line n).polling = l.polling := by rw [hlook.line]; rfl
    refine ⟨fun hspacing => ?_, fun hspacing e he => ?_, fun hspacing hgood => ⟨fun hmode => ?_, fun hmode hanswers => ?_,
      fun ⟨hmode, hsol, htx⟩ hmark hkeys => ?_⟩⟩
    · refine (hstart.setLine hn (l.listening (.spacing sol))).becomes ?_
      rw [exec_receiveFrame hactive hrx, State.completeFrame_spacing hspacing]
    · obtain ⟨⟨-, hv⟩, hcause⟩ := judgeFrame_error hspacing he
      have hbad := hlook.bad (f := f) (sol := sol) hn hv
      rw [hcause] at hbad
      exact hbad.becomes (hexec hspacing)
    · refine hlook.delivers hn .key f.data ?_
      rw [hexec hspacing, judgeFrame_good hspacing hgood, State.routeFrame_direct_key (hmodeLook.trans hmode),
        hlook.sameInputs.terminalOn, ← hdirect hmode]
      rfl
    · refine (hlook.setFlag hn .error .unsolicited).becomes ?_
      rw [hexec hspacing, judgeFrame_good hspacing hgood, State.routeFrame_error ?_ (.inr (hmodeLook.trans hmode))]
      · rfl
      · rw [hmodeLook, hpollLook, Line.polling_iff]
        exact hanswers
    · have hcount := hlook.count hn true
      have hnamed : s.namedTerminal n ((l.listening .looking).counted true) = s.namedTerminal n l :=
        State.namedTerminal_counted (l := l.listening .looking) htx true
      have hdelivers := hcount.delivers (c := .receiveFrame n f) hn .key f.data ?_
      · rw [hnamed] at hdelivers
        exact hdelivers
      · rw [hexec hspacing, judgeFrame_good hspacing hgood, State.routeFrame_answer (hmodeLook.trans hmode) hsol
          (hpollLook.trans (Line.polling_iff.mpr htx)), State.answerFrame_key hmark (by rw [hlook.line]; exact hkeys), hnamed]
        unfold State.polledTerminal State.namedTerminal
        rw [hcount.line, funext (hcount.sameInputs.terminalOn n), if_neg (by simp [hmode]), if_pos htx]
        rfl

end Sys2Proof.Machine

/-! # The screen scanner (chapter 9)

A visit and a take lead to the same end of the visit or to the same row asked for (`VisitOver`, `RowAsked`); what a take does to the
line is the pump of the line with the record in its queue. -/

/-! ## Eligible terminals (R153) -/

namespace Sys2Proof.Machine

section
variable {s : State} {k : Nat}

theorem Terminal.dirtyCount_ne_zero {r : Terminal} :
    r.dirtyCount ≠ 0 ↔ ∃ i, i < 24 ∧ r.dirty.at0 false i = true := by
  unfold Terminal.dirtyCount
  rw [ne_eq, List.count_eq_zero, Classical.not_not, Table.mem_entries_iff _ false]

theorem State.dropIsUp_iff : s.dropIsUp k = true ↔ ((s.line (s.term k).cfg.line).cfg.mode = .shared →
    ∃ r, (s.line (s.term k).cfg.line).drops.at0 none (s.term k).cfg.drop = some r ∧ r.state = .up) := by
  unfold State.dropIsUp
  dsimp only
  cases (s.line (s.term k).cfg.line).cfg.mode with
  | direct => simp
  | shared =>
    cases (s.line (s.term k).cfg.line).drops.at0 none (s.term k).cfg.drop with
    | none => simp
    | some r => simp

theorem State.lineActive_iff {n : Nat} : s.lineActive n = true
    ↔ s.part = .running ∧ (s.line n).cfg.enabled = true ∧ (s.line n).cfg.divisor ≠ 0 := by
  simp [State.lineActive, activeUnder, and_assoc]

theorem State.eligible_iff : s.eligible k = true ↔ Visitable s k := by
  unfold State.eligible State.rowQueueOf Visitable
  simp only [Bool.and_eq_true, State.lineActive_iff, State.dropIsUp_iff, bne_iff_ne, Terminal.dirtyCount_ne_zero,
    decide_eq_true_iff, State.enabled, and_assoc]

theorem State.nextTerminal_none (h : ∀ i, i < 64 → ¬Visitable s ((s.scanner.pos - 1 + i) % 64 + 1)) :
    s.nextTerminal = none := by
  unfold State.nextTerminal
  rw [List.find?_map, Option.map_eq_none_iff, List.find?_eq_none]
  intro i hi
  exact mt State.eligible_iff.mp (h i (List.mem_range.mp hi))

theorem State.nextTerminal_first {i : Nat} (hi : i < 64) (h : Visitable s ((s.scanner.pos - 1 + i) % 64 + 1))
    (hfirst : ∀ j, j < i → ¬Visitable s ((s.scanner.pos - 1 + j) % 64 + 1)) :
    s.nextTerminal = some ((s.scanner.pos - 1 + i) % 64 + 1) := by
  unfold State.nextTerminal
  rw [List.find?_map, Option.map_eq_some_iff]
  refine ⟨i, ?_, rfl⟩
  rw [List.find?_range_eq_some]
  exact ⟨State.eligible_iff.mpr h, List.mem_range.mpr hi, fun j hj => by simpa using mt State.eligible_iff.mp (hfirst j hj)⟩

theorem State.sliceFor_eq : s.sliceFor k = sliceOf s k := by
  unfold State.sliceFor sliceOf State.deadlineTerminal State.nearDeadline
  simp only [Bool.and_eq_true, bne_iff_ne, Bool.or_eq_true, beq_iff_eq, and_assoc]

end

end Sys2Proof.Machine

/-! ## Records join the row queue of a line (R134, R135) -/

namespace Sys2Proof.Machine

/-- The line with records at the back of its row queue. -/
def Line.joined (l : Line) (records : List RowRec) : Line := { l with queue := l.queue ++ records }

section
variable {l : Line} {d : Nat → Nat}

theorem Line.recordsJoin (records : List RowRec) : RecordsJoin d l records ((l.joined records).pump d) :=
  ⟨fun htx hhold => Line.pump_idle (l := l.joined records) htx hhold,
    fun htx hsettled => Line.pump_settled (l := l.joined records) htx hsettled⟩

theorem Line.queue_pollStep (l : Line) : l.pollStep.queue = l.queue := by
  unfold Line.pollStep
  split
  · rfl
  split <;> rfl

theorem Line.queue_leaveIdle (l : Line) : l.leaveIdle.queue = l.queue ∧ l.leaveIdle.cfg = l.cfg := by
  unfold Line.leaveIdle
  split
  · split
    · split <;> exact ⟨rfl, rfl⟩
    · split
      · exact ⟨l.queue_pollStep, l.cfg_pollStep⟩
      · exact ⟨rfl, rfl⟩
  · exact ⟨rfl, rfl⟩

theorem Line.queue_produce (l : Line) : (l.produce d).queue = l.queue ∧ (l.produce d).cfg = l.cfg := by
  obtain ⟨_, _, h⟩ := l.produce_record d
  rw [h]
  exact ⟨rfl, rfl⟩

theorem Line.queue_move (l : Line) : l.move.queue = l.queue ∧ l.move.cfg = l.cfg := by
  obtain ⟨_, _, h⟩ := l.move_record
  rw [h]
  exact ⟨rfl, rfl⟩

theorem Line.queue_pump (l : Line) : (l.pump d).queue = l.queue ∧ (l.pump d).cfg = l.cfg := by
  unfold Line.pump
  simp only [Line.queue_produce, Line.queue_move, Line.queue_leaveIdle, and_self]

/-! ### Two records in one event -/

variable {x : Line} {more : List RowRec}

theorem RowBegun.joined (h : RowBegun d l x) (hqueue : l.queue ≠ []) : RowBegun d (l.joined more) (x.joined more) := by
  obtain ⟨q, rest, hq⟩ := List.exists_cons_of_ne_nil hqueue
  obtain ⟨hempty, hbusy⟩ := h q rest hq
  intro q' rest' hq'
  obtain ⟨rfl, -⟩ : q = q' ∧ rest ++ more = rest' := by simpa [Line.joined, hq] using hq'
  exact ⟨fun hshift => congrArg (Line.joined · more) (hempty hshift),
    fun hshift => congrArg (Line.joined · more) (hbusy hshift)⟩

theorem PollStepped.joined (h : PollStepped l x) : PollStepped (l.joined more) (x.joined more) := by
  refine ⟨fun hnone => congrArg (Line.joined · more) (h.1 hnone), fun hsome => ?_⟩
  obtain ⟨hdrops, hx⟩ := h.2 hsome
  exact ⟨hdrops, congrArg (Line.joined · more) hx⟩

theorem RowOver.joined (h : RowOver d l x) (hqueue : l.queue ≠ []) : RowOver d (l.joined more) (x.joined more) := by
  unfold RowOver at h ⊢
  have hmode : (l.joined more).cfg = l.cfg := rfl
  rw [hmode]
  cases hm : l.cfg.mode with
  | direct =>
    simp only [hm] at h ⊢
    rw [if_neg hqueue] at h
    rw [if_neg (by simp [Line.joined, hqueue])]
    exact h.joined hqueue
  | shared =>
    simp only [hm] at h ⊢
    exact h.joined

/-- A line that has begun a row or made its poll step has nothing more to do. -/
theorem RowBegun.pump (h : RowBegun d l x) (hqueue : l.queue ≠ []) : x.pump d = x := by
  obtain ⟨q, rest, hq⟩ := List.exists_cons_of_ne_nil hqueue
  obtain ⟨hempty, hbusy⟩ := h q rest hq
  by_cases hshift : l.shift = none
  · rw [hempty hshift]
    exact Line.pump_settled (by simp) ⟨.inr (by simp), fun _ => .inl (by simp)⟩
  · rw [hbusy hshift]
    exact Line.pump_settled (by simp) ⟨.inr hshift, fun _ => .inl (by simp)⟩

theorem PollStepped.pump (h : PollStepped l x) (hhold : l.hold = none) (hmode : l.cfg.mode = .shared) : x.pump d = x := by
  cases hdrops : l.hasDrops with
  | false =>
    rw [h.1 (Line.hasDrops_eq_false.mp hdrops)]
    exact Line.pump_resting rfl hhold (Line.leaveIdle_no_drops (l := { l with tx := .idle }) hdrops (.inl hmode))
  | true =>
    have hsome : ∃ k, k < 4 ∧ l.drops.at0 none k ≠ none := by
      have := mt (Line.hasDrops_eq_false (l := l)).mpr (by simp [hdrops])
      simpa using this
    obtain ⟨-, hx⟩ := h.2 hsome
    rw [hx]
    refine Line.pump_settled ?_ ⟨?_, fun hrow => ?_⟩
    · dsimp only
      split <;> simp
    · by_cases hshift : l.shift = none
      · exact .inl (if_pos hshift)
      · exact .inr (by simp [hshift])
    · dsimp only at hrow
      split at hrow <;> cases hrow

theorem RowOver.pump (h : RowOver d l x) (hhold : l.hold = none) (hqueue : l.queue ≠ []) : x.pump d = x := by
  unfold RowOver at h
  cases hmode : l.cfg.mode with
  | direct =>
    simp only [hmode, if_neg hqueue] at h
    exact h.pump hqueue
  | shared =>
    simp only [hmode] at h
    exact h.pump hhold hmode

/-- Two records that join one after the other in one event: the second waits behind the first. -/
theorem Line.recordsJoin_both (a b : RowRec) : RecordsJoin d l [a, b] ((((l.joined [a]).pump d).joined [b]).pump d) := by
  have hboth : (l.joined [a]).joined [b] = l.joined [a, b] := by simp [Line.joined]
  have hqueue : (l.joined [a]).queue ≠ [] ∧ ((l.joined [a]).joined [b]).queue ≠ [] := by simp [Line.joined]
  obtain ⟨hidle, hbusy⟩ := l.recordsJoin (d := d) [a]
  refine ⟨fun htx hhold => ?_, fun htx hsettled => ?_⟩
  · have hover : RowOver d ((l.joined [a]).joined [b]) (((l.joined [a]).pump d).joined [b]) :=
      RowOver.joined (hidle htx hhold) hqueue.1
    rw [hover.pump hhold hqueue.2]
    rw [hboth] at hover
    exact hover
  · rw [hbusy htx hsettled]
    have hpump : (l.joined [a, b]).pump d = l.joined [a, b] := Line.pump_settled htx hsettled
    rw [← hboth] at hpump
    exact hpump.trans hboth

end

end Sys2Proof.Machine

/-! ## Visits and takes (R153 to R156) -/

namespace Sys2Proof.Machine

theorem Table.at0_clear {n : Nat} (t : Table n Bool) (i j : Nat) :
    (t.set0 i false).at0 false j = if j = i then false else t.at0 false j := by
  rw [Table.at0_set0]
  by_cases hj : j = i
  · subst hj
    by_cases hlt : j < n
    · simp [hlt]
    · simp [Table.at0_ge t false (Nat.not_lt.mp hlt)]
  · rw [if_neg fun c => hj c.1.symm, if_neg hj]

/-- The visit to terminal `k` ends: the scan position moves on, and the scanner is free (R154). -/
def Scanner.ended (c : Scanner) (k : Nat) : Scanner := { c with pos := k % 64 + 1, visit := none, take := none }

/-- R154: the visit ends or asks for its next row. -/
def State.visitNext (s : State) (v : Visit) : State :=
  if s.visitOver v = true then s.endVisit v.terminal else s.askRow v

section
variable {s t : State} {v : Visit} {k : Nat} {r : Terminal} {l : Line}

theorem State.visitOver_iff : s.visitOver v = true
    ↔ VisitOver v (fun i => (s.term v.terminal).dirty.at0 false i) (s.rowQueueOf v.terminal).length := by
  have hcount : (s.term v.terminal).dirtyCount = 0 ↔ ∀ i, i < 24 → (s.term v.terminal).dirty.at0 false i = false := by
    constructor
    · intro hzero i hi
      exact Bool.eq_false_iff.mpr fun hdirty => Terminal.dirtyCount_ne_zero.mpr ⟨i, hi, hdirty⟩ hzero
    · intro hclean
      refine Classical.byContradiction fun hcount => ?_
      obtain ⟨i, hi, hdirty⟩ := Terminal.dirtyCount_ne_zero.mp hcount
      exact Bool.eq_false_iff.mp (hclean i hi) hdirty
  unfold State.visitOver VisitOver
  simp only [Bool.or_eq_true, decide_eq_true_iff, beq_iff_eq, hcount, or_assoc]

theorem State.visitNext_touches (s : State) (v : Visit) : Touches [.scanner] s (s.visitNext v) :=
  Touches.ite (State.endVisit_touches ..) (State.askRow_touches ..)

theorem State.askRow_dirty (h : ∃ i, i < 24 ∧ (s.term v.terminal).dirty.at0 false i = true) :
    RowAsked s v (fun i => (s.term v.terminal).dirty.at0 false i) s.scanner (s.askRow v).scanner := by
  cases hlow : (s.term v.terminal).lowestDirty with
  | none =>
    obtain ⟨i, hi, hdirty⟩ := h
    exact absurd hdirty (List.find?_eq_none.mp hlow i (List.mem_range.mpr hi))
  | some i =>
    obtain ⟨hdirty, hi, hbelow⟩ := List.find?_range_eq_some.mp hlow
    refine ⟨i, List.mem_range.mp hi, hdirty, fun j hj => by simpa using hbelow j hj, ?_⟩
    unfold State.askRow
    rw [hlow]
    exact State.withScanner_scanner ..

theorem State.visitNext_scanner (s : State) (v : Visit) :
    let dirty := fun i => (s.term v.terminal).dirty.at0 false i
    let queued := (s.rowQueueOf v.terminal).length
    (VisitOver v dirty queued → (s.visitNext v).scanner = s.scanner.ended v.terminal)
      ∧ (¬VisitOver v dirty queued → RowAsked s v dirty s.scanner (s.visitNext v).scanner) := by
  refine ⟨fun hover => ?_, fun hover => ?_⟩
  · unfold State.visitNext
    rw [if_pos (State.visitOver_iff.mpr hover)]
    exact State.withScanner_scanner ..
  · unfold State.visitNext
    rw [if_neg (mt State.visitOver_iff.mp hover)]
    refine State.askRow_dirty ?_
    have hdirty := fun c => hover (.inr (.inl c))
    simpa using hdirty

theorem State.visitOn_eq_visitNext (h : s.visitOver v = true ∨ (s.term v.terminal).dirty.at0 false 23 = false) :
    s.visitOn v = s.visitNext v := by
  unfold State.visitOn State.visitNext
  refine ite_congr rfl (fun _ => rfl) fun hover => if_neg ?_
  simp [h.resolve_left hover]

theorem State.visitOn_status (hover : ¬s.visitOver v = true) (h : (s.term v.terminal).dirty.at0 false 23 = true) :
    s.visitOn v = (s.takeStatusRow v.terminal).visitNext { v with taken := v.taken + 1 } :=
  (if_neg hover).trans (if_pos h)

/-! ### What takes change -/

/-- From `s` to `t` rows of terminal `k` were taken: the terminal's record is `r` and that of its line is `l`. -/
structure Taken (s : State) (k : Nat) (r : Terminal) (l : Line) (t : State) : Prop where
  touches : Touches [.terms, .lines, .marks] s t
  term : t.term k = r
  otherTerms : ∀ j, j ≠ k → t.term j = s.term j
  line : t.line (s.term k).cfg.line = l
  otherLines : ∀ m, m ≠ (s.term k).cfg.line → t.line m = s.line m
  cfg : r.cfg = (s.term k).cfg
  ring : r.ring = (s.term k).ring
  lineCfg : l.cfg = (s.line (s.term k).cfg.line).cfg

theorem Taken.start (s : State) (k : Nat) : Taken s k (s.term k) (s.line (s.term k).cfg.line) s :=
  ⟨Touches.refl .., rfl, fun _ _ => rfl, rfl, fun _ _ => rfl, rfl, rfl, rfl⟩

theorem Taken.sameInputs (h : Taken s k r l t) : SameInputs s t := by
  refine .of_terms h.touches fun j => ?_
  by_cases hj : j = k
  · subst hj
    rw [h.term]
    exact ⟨h.cfg, h.ring⟩
  · rw [h.otherTerms j hj]
    exact ⟨rfl, rfl⟩

theorem Taken.setTerm (h : Taken s k r l t) (hk : 1 ≤ k ∧ k ≤ 64) (r' : Terminal) (hcfg : r'.cfg = r.cfg)
    (hring : r'.ring = r.ring) : Taken s k r' l (t.setTerm k r') where
  touches := h.touches.trans (State.setTerm_touches ..).weaken
  term := by rw [State.term_setTerm, if_pos ⟨rfl, hk⟩]
  otherTerms := fun j hj => by rw [State.term_setTerm, if_neg fun c => hj c.1.symm, h.otherTerms j hj]
  line := (State.line_of_lines (State.setTerm_lines ..) _).trans h.line
  otherLines := fun m hm => (State.line_of_lines (State.setTerm_lines ..) m).trans (h.otherLines m hm)
  cfg := hcfg.trans h.cfg
  ring := hring.trans h.ring
  lineCfg := h.lineCfg

/-- A record joins the row queue of the terminal's active line, and the transmitter goes on. -/
theorem Taken.joinLine (h : Taken s k r l t) (hactive : s.lineActive (s.term k).cfg.line = true) (q : RowRec) :
    Taken s k r ((l.joined [q]).pump s.dropOf) (t.runLine (t.term k).cfg.line ((t.line (t.term k).cfg.line).joined [q])) := by
  have hn : (t.term k).cfg.line = (s.term k).cfg.line := by rw [h.term, h.cfg]
  have hon : activeUnder t.part (l.joined [q]).cfg = true := by
    rw [h.touches.part_eq]
    exact (congrArg (activeUnder s.part) h.lineCfg).trans hactive
  rw [hn, h.line, State.runLine_active hon, State.dropOf_of_cfg h.sameInputs.cfg]
  exact {
    touches := h.touches.trans (State.setLine_touches ..).weaken
    term := (State.term_of_terms (State.setLine_terms ..) k).trans h.term
    otherTerms := fun j hj => (State.term_of_terms (State.setLine_terms ..) j).trans (h.otherTerms j hj)
    line := State.line_setLine_self _ (State.lt_of_lineActive hactive)
    otherLines := fun m hm => (State.line_setLine_ne _ hm).trans (h.otherLines m hm)
    cfg := h.cfg
    ring := h.ring
    lineCfg := (Line.queue_pump _).2.trans h.lineCfg }

theorem Taken.takeRow (h : Taken s k r l t) (hk : 1 ≤ k ∧ k ≤ 64) (hactive : s.lineActive (s.term k).cfg.line = true)
    (i : Nat) (x : List Byte) : Taken s k { r with dirty := r.dirty.set0 i false }
      ((l.joined [⟨k, i, x⟩]).pump s.dropOf) (t.takeRow k i x) := by
  have hset := h.setTerm hk { r with dirty := r.dirty.set0 i false } rfl rfl
  rw [← h.term] at hset ⊢
  exact hset.joinLine hactive ⟨k, i, x⟩

theorem Taken.takeStatusRow (h : Taken s k r l t) (hk : 1 ≤ k ∧ k ≤ 64)
    (hactive : s.lineActive (s.term k).cfg.line = true) :
    Taken s k { r with lastTaken := some (s.statusRow k), dirty := r.dirty.set0 23 false }
      ((l.joined [⟨k, 23, s.statusRow k⟩]).pump s.dropOf) (t.takeStatusRow k) := by
  have hset := h.setTerm hk { r with lastTaken := some (s.statusRow k) } rfl rfl
  rw [← h.term, ← h.sameInputs.statusRow] at hset ⊢
  exact hset.takeRow hk hactive 23 (t.statusRow k)

theorem Taken.visitOver_iff (h : Taken s v.terminal r l t) :
    t.visitOver v = true ↔ VisitOver v (fun i => r.dirty.at0 false i) l.queue.length := by
  rw [State.visitOver_iff, State.rowQueueOf, h.term, h.cfg, h.line]

/-- From `s` to `t` only terminal `k` and its line changed, and what the scanner does next. -/
structure VisitStep (s : State) (k : Nat) (t : State) : Prop where
  touches : Touches [.terms, .lines, .scanner, .marks] s t
  sameInputs : SameInputs s t
  cfg : (t.term k).cfg = (s.term k).cfg
  ring : (t.term k).ring = (s.term k).ring
  otherTerms : ∀ j, j ≠ k → t.term j = s.term j
  otherLines : ∀ m, m ≠ (s.term k).cfg.line → t.line m = s.line m

/-- R154: from `s` to `t` the records joined the row queue of the line, the terminal of the visit `v` became `r`, and the visit
ended or asked for its next row. -/
structure WentOn (s : State) (v : Visit) (r : Terminal) (records : List RowRec) (t : State) : Prop
    extends VisitStep s v.terminal t where
  dirty : ∀ i, (t.term v.terminal).dirty.at0 false i = r.dirty.at0 false i
  lastTaken : (t.term v.terminal).lastTaken = r.lastTaken
  queue : (t.line (s.term v.terminal).cfg.line).queue = (s.line (s.term v.terminal).cfg.line).queue ++ records
  joined : RecordsJoin s.dropOf (s.line (s.term v.terminal).cfg.line) records (t.line (s.term v.terminal).cfg.line)
  ended : VisitOver v (fun i => r.dirty.at0 false i) ((s.line (s.term v.terminal).cfg.line).queue.length + records.length) →
    t.scanner = s.scanner.ended v.terminal
  asked : ¬VisitOver v (fun i => r.dirty.at0 false i) ((s.line (s.term v.terminal).cfg.line).queue.length + records.length) →
    RowAsked s v (fun i => r.dirty.at0 false i) s.scanner t.scanner

theorem Taken.wentOn {records : List RowRec} (h : Taken s v.terminal r l t)
    (hqueue : l.queue = (s.line (s.term v.terminal).cfg.line).queue ++ records)
    (hjoined : RecordsJoin s.dropOf (s.line (s.term v.terminal).cfg.line) records l) :
    WentOn s v r records (t.visitNext v) := by
  have htouches := t.visitNext_touches v
  have hterm := State.term_of_terms htouches.terms_eq
  have hline := State.line_of_lines htouches.lines_eq
  have hrows : t.rowQueueOf v.terminal = l.queue := by
    unfold State.rowQueueOf
    rw [h.term, h.cfg, h.line]
  obtain ⟨hended, hasked⟩ := t.visitNext_scanner v
  rw [h.term, hrows, h.touches.scanner_eq, hqueue, List.length_append] at hended hasked
  exact {
    touches := h.touches.weaken.trans htouches.weaken
    sameInputs := h.sameInputs.trans (.of_terms htouches fun j => by simp [hterm])
    dirty := fun i => by rw [hterm, h.term]
    lastTaken := by rw [hterm, h.term]
    cfg := by rw [hterm, h.term, h.cfg]
    ring := by rw [hterm, h.term, h.ring]
    otherTerms := fun j hj => (hterm j).trans (h.otherTerms j hj)
    queue := by rw [hline, h.line, hqueue]
    joined := by rwa [hline, h.line]
    otherLines := fun m hm => (hline m).trans (h.otherLines m hm)
    ended := hended
    asked := fun hover => by
      obtain ⟨i, hi, hdirty, hbelow, hscanner⟩ := hasked hover
      rw [h.term, h.cfg] at hscanner
      exact ⟨i, hi, hdirty, hbelow, hscanner⟩ }

/-- R156: the status row is taken. -/
theorem State.statusRow_wentOn (s : State) (v : Visit) (hk : 1 ≤ v.terminal ∧ v.terminal ≤ 64)
    (hactive : s.lineActive (s.term v.terminal).cfg.line = true) :
    WentOn s v { s.term v.terminal with
        lastTaken := some (s.statusRow v.terminal), dirty := (s.term v.terminal).dirty.set0 23 false }
      [⟨v.terminal, 23, s.statusRow v.terminal⟩] ((s.takeStatusRow v.terminal).visitNext v) :=
  ((Taken.start s v.terminal).takeStatusRow hk hactive).wentOn (Line.queue_pump _).1 (Line.recordsJoin _)

/-- R154 to R156: a row is taken, and if the visit goes on and the status row is dirty, that row too. -/
theorem State.row_wentOn (s : State) (v : Visit) (hk : 1 ≤ v.terminal ∧ v.terminal ≤ 64)
    (hactive : s.lineActive (s.term v.terminal).cfg.line = true) (i : Nat) (x : List Byte) :
    let dirty := (s.term v.terminal).dirty.set0 i false
    let ends := VisitOver v (fun j => dirty.at0 false j) ((s.line (s.term v.terminal).cfg.line).queue.length + 1)
    let t := (s.takeRow v.terminal i x).visitOn v
    VisitStep s v.terminal t
      ∧ ((ends ∨ dirty.at0 false 23 = false) → WentOn s v { s.term v.terminal with dirty := dirty } [⟨v.terminal, i, x⟩] t)
      ∧ (¬ends → dirty.at0 false 23 = true →
          WentOn s { v with taken := v.taken + 1 }
            { s.term v.terminal with lastTaken := some (s.statusRow v.terminal), dirty := dirty.set0 23 false }
            [⟨v.terminal, i, x⟩, ⟨v.terminal, 23, s.statusRow v.terminal⟩] t) := by
  intro dirty ends t
  have htaken := (Taken.start s v.terminal).takeRow hk hactive i x
  have hqueue := (Line.queue_pump (d := s.dropOf) ((s.line (s.term v.terminal).cfg.line).joined [⟨v.terminal, i, x⟩])).1
  have hlength : ((s.line (s.term v.terminal).cfg.line).joined [⟨v.terminal, i, x⟩]).queue.length
      = (s.line (s.term v.terminal).cfg.line).queue.length + 1 := List.length_append
  have hover : (s.takeRow v.terminal i x).visitOver v = true ↔ ends := by
    rw [htaken.visitOver_iff, hqueue, hlength]
  have h23 : ((s.takeRow v.terminal i x).term v.terminal).dirty.at0 false 23 = dirty.at0 false 23 :=
    congrArg (fun r => r.dirty.at0 false 23) htaken.term
  have hone (hlast : ends ∨ dirty.at0 false 23 = false) :
      WentOn s v { s.term v.terminal with dirty := dirty } [⟨v.terminal, i, x⟩] t := by
    have ht : t = (s.takeRow v.terminal i x).visitNext v :=
      State.visitOn_eq_visitNext (hlast.imp hover.mpr h23.trans)
    rw [ht]
    exact htaken.wentOn hqueue (Line.recordsJoin _)
  have hboth (hgoes : ¬ends) (hdirty : dirty.at0 false 23 = true) : WentOn s { v with taken := v.taken + 1 }
      { s.term v.terminal with lastTaken := some (s.statusRow v.terminal), dirty := dirty.set0 23 false }
      [⟨v.terminal, i, x⟩, ⟨v.terminal, 23, s.statusRow v.terminal⟩] t := by
    have ht : t = ((s.takeRow v.terminal i x).takeStatusRow v.terminal).visitNext { v with taken := v.taken + 1 } :=
      State.visitOn_status (mt hover.mp hgoes) (h23.trans hdirty)
    rw [ht]
    refine (htaken.takeStatusRow hk hactive).wentOn (v := { v with taken := v.taken + 1 }) ?_ (Line.recordsJoin_both ..)
    exact (Line.queue_pump _).1.trans ((congrArg (· ++ _) hqueue).trans (List.append_assoc ..))
  refine ⟨?_, hone, hboth⟩
  by_cases hlast : ends ∨ dirty.at0 false 23 = false
  · exact (hone hlast).toVisitStep
  · obtain ⟨hgoes, hdirty⟩ := not_or.mp hlast
    exact (hboth hgoes (by simpa using hdirty)).toVisitStep

end

/-! ### SCAN_VISIT -/

section
variable {s : State} {k : Nat}

theorem exec_scanVisit (hpart : s.part = .running) (hvisit : s.scanner.visit = none) (h : s.nextTerminal = some k) :
    exec .scanVisit s = finish s (s.visitOn ⟨k, sliceOf s k, 0⟩) := by
  show finish s _ = _
  rw [if_pos ⟨hpart, hvisit⟩, h, ← State.sliceFor_eq]

theorem exec_scanVisit_none (h : s.nextTerminal = none) : exec .scanVisit s = .next s := by
  show finish s _ = _
  rw [h]
  exact (congrArg (finish s) (ite_self s)).trans (finish_self s)

theorem Visitable.lineActive (h : Visitable s k) : s.lineActive (s.term k).cfg.line = true := by
  obtain ⟨-, hpart, henabled, hdivisor, -⟩ := h
  exact State.lineActive_iff.mpr ⟨hpart, henabled, hdivisor⟩

theorem sliceOf_pos (h1 : 1 ≤ s.scanner.slice1) (h2 : 1 ≤ s.scanner.slice2) : 1 ≤ sliceOf s k := by
  unfold sliceOf
  dsimp only
  split
  · exact h2
  · exact h1

/-- R153, R154: a visit that begins is not over. -/
theorem Visitable.visit_not_over (h : Visitable s k) (h1 : 1 ≤ s.scanner.slice1) (h2 : 1 ≤ s.scanner.slice2) :
    ¬VisitOver ⟨k, sliceOf s k, 0⟩ (fun i => (s.term k).dirty.at0 false i) (s.rowQueueOf k).length := by
  obtain ⟨-, -, -, -, -, ⟨i, hi, hdirty⟩, hqueue⟩ := h
  rintro (hslice | hclean | hfull)
  · exact absurd (sliceOf_pos h1 h2) (Nat.not_le_of_lt (Nat.lt_succ_of_le hslice))
  · simp [hclean i hi] at hdirty
  · exact absurd hfull (Nat.not_le_of_lt hqueue)

end

/-- Settles O55: the visit begins with the status row, if it is dirty, and goes on as after any take. -/
theorem theScannerVisits : Obligations.TheScannerVisits := by
  intro s hpart hvisit hslice1 hslice2 inTurn
  refine ⟨fun hnone => exec_scanVisit_none (State.nextTerminal_none hnone), fun i hi hvisitable hfirst => ?_⟩
  intro k n dirty dropOf
  have hk : 1 ≤ k ∧ k ≤ 64 := by
    show 1 ≤ _ % 64 + 1 ∧ _ % 64 + 1 ≤ 64
    omega
  have hexec := exec_scanVisit hpart hvisit (State.nextTerminal_first hi hvisitable hfirst)
  have hgoes := hvisitable.visit_not_over hslice1 hslice2
  have hover : ¬s.visitOver ⟨k, sliceOf s k, 0⟩ = true := mt State.visitOver_iff.mp hgoes
  cases h23 : dirty 23 with
  | false =>
    rw [State.visitOn_eq_visitNext (.inr h23)] at hexec
    have htouches := s.visitNext_touches ⟨k, sliceOf s k, 0⟩
    exact ⟨_, hexec.trans (finish_of_touches htouches.weaken),
      fun _ => ⟨(s.visitNext_scanner ⟨k, sliceOf s k, 0⟩).2 hgoes, htouches.1⟩, nofun⟩
  | true =>
    obtain ⟨⟨htouches, hsame, hcfg, hring, hterms, hlines⟩, hdirty, hlastTaken, hqueue, hjoined, hended, hasked⟩ :=
      s.statusRow_wentOn ⟨k, sliceOf s k, 1⟩ hk hvisitable.lineActive
    simp only [Table.at0_clear] at hdirty hended hasked
    rw [State.visitOn_status hover h23] at hexec
    exact ⟨_, hexec.trans hsame.finish, nofun, fun _ _ => ⟨fun j _ => hdirty j, hlastTaken, hcfg, hring, hterms, hqueue,
      hjoined, hlines, hended, hasked, htouches.1⟩⟩

/-! ### ROW_TAKE -/

section
variable {s : State} {a : Take} {v : Visit}

/-- R98, R155: the row read is granted and its bytes have come. -/
def State.rowRead (s : State) : State := (s.charge .rowRead).withScanner { s.scanner with take := none }

theorem State.rowRead_touches (s : State) : Touches [.path, .scanner] s s.rowRead :=
  (s.charge_touches .rowRead).weaken.trans (State.withScanner_touches ..).weaken

theorem State.abandoned_eq_false : s.abandoned a = false ↔ (s.term a.terminal).cfg.enabled = true
    ∧ s.lineActive (s.term a.terminal).cfg.line = true
    ∧ ((s.line (s.term a.terminal).cfg.line).cfg.mode = .shared →
        ∃ r, (s.line (s.term a.terminal).cfg.line).drops.at0 none (s.term a.terminal).cfg.drop = some r ∧ r.state = .up)
    ∧ a.stale = false := by
  rw [← State.dropIsUp_iff]
  unfold State.abandoned State.enabled
  simp only [Bool.or_eq_false_iff, Bool.not_eq_false', and_assoc]

theorem exec_rowTake (hgrant : s.grant = some .rowRead) (htake : s.scanner.take = some a) (hvisit : s.scanner.visit = some v) :
    exec .rowTake s = finish s (if s.abandoned a = true then s.rowRead.endVisit v.terminal
      else (s.rowRead.takeRow a.terminal a.row (s.mem.readBytes a.addr 80)).visitOn { v with taken := v.taken + 1 }) := by
  show finish s _ = _
  rw [State.serve_granted hgrant]
  simp only [State.charge_scanner, htake, hvisit]
  rfl

end

/-- Settles O56: a take that is not abandoned takes its row and, if the visit goes on and the status row is dirty, that row. -/
theorem rowReadsAreTakes : Obligations.RowReadsAreTakes := by
  intro s a v hgrant htake hvisit hterminal h1 h64 hrow k n l usable ended dropOf
  have hexec := exec_rowTake hgrant htake hvisit
  have husable : usable ↔ s.abandoned a = false := by
    rw [State.abandoned_eq_false, hterminal]
  by_cases hu : usable
  case neg =>
    rw [if_pos (by simpa using mt husable.mpr hu)] at hexec
    have htouches : Touches [.path, .scanner] s (s.rowRead.endVisit v.terminal) :=
      s.rowRead_touches.trans (State.endVisit_touches ..).weaken
    exact ⟨_, hexec.trans (finish_of_touches htouches.weaken), fun _ => rfl, fun c => absurd c hu⟩
  obtain ⟨-, hactive, -⟩ := id hu
  rw [if_neg (by simp [husable.mp hu]), hterminal] at hexec
  have hread := s.rowRead_touches
  have hreadSame : SameInputs s s.rowRead := .of_terms hread fun j => ⟨rfl, rfl⟩
  obtain ⟨hstep, hone, hboth⟩ :=
    s.rowRead.row_wentOn { v with taken := v.taken + 1 } ⟨h1, h64⟩ hactive a.row (s.mem.readBytes a.addr 80)
  simp only [Table.at0_clear] at hone hboth
  refine ⟨_, hexec.trans (hreadSame.trans hstep.sameInputs).finish, fun c => absurd hu c, fun _ _ => ⟨fun hlast => ?_,
    fun hgoes hdirty => ?_, hstep.otherTerms, hstep.otherLines, hstep.cfg, hstep.ring,
    (hread.weaken.trans hstep.touches.weaken).1⟩⟩
  · obtain ⟨-, hrows, hlastTaken, hqueue, hjoined, hended, hasked⟩ := hone hlast
    simp only [Table.at0_clear] at hrows hended hasked
    exact ⟨⟨hqueue, hjoined, fun j _ => hrows j, hended, hasked⟩, hlastTaken⟩
  · obtain ⟨-, hrows, hlastTaken, hqueue, hjoined, hended, hasked⟩ := hboth hgoes hdirty
    simp only [Table.at0_clear, hreadSame.statusRow] at hrows hlastTaken hqueue hjoined hended hasked
    exact ⟨⟨hqueue, hjoined, fun j _ => hrows j, hended, hasked⟩, hlastTaken⟩

end Sys2Proof.Machine

/-! # The completion event of a successful RELOAD (R132, R134, R149, R152, R155) -/

namespace Sys2Proof.Machine

section
variable {s t : State} {c : LoadedConfig} {n k : Nat}

/-! ## Lines, terminals and the scanner come from the configuration and the blocks as they were (R168) -/

/-- What the new configuration makes of lines, terminals and scanner depends on them and the part state alone. -/
theorem State.applyConfig_of_same (c : LoadedConfig) (hpart : t.part = s.part) (hlines : t.lines = s.lines)
    (hterms : t.terms = s.terms) (hscanner : t.scanner = s.scanner) : (t.applyConfig c).lines = (s.applyConfig c).lines
      ∧ (t.applyConfig c).terms = (s.applyConfig c).terms ∧ (t.applyConfig c).scanner = (s.applyConfig c).scanner := by
  cases s
  cases t
  cases hpart
  cases hlines
  cases hterms
  cases hscanner
  exact ⟨rfl, rfl, rfl⟩

theorem State.completeReload_blocks (s : State) (c : LoadedConfig) (move : Option Nat) :
    (s.completeReload c move).lines = (s.applyConfig c).lines ∧ (s.completeReload c move).terms = (s.applyConfig c).terms
      ∧ (s.completeReload c move).scanner = (s.applyConfig c).scanner := by
  unfold State.completeReload
  simp only [State.driveAttn_lines, State.driveAttn_terms, State.driveAttn_scanner, State.withNotices_lines,
    State.withNotices_terms, State.withNotices_scanner, State.withEngine_lines, State.withEngine_terms,
    State.withEngine_scanner, State.markAll_lines, State.markAll_terms, State.markAll_scanner, State.withCause_lines,
    State.withCause_terms, State.withCause_scanner, State.withPart_lines, State.withPart_terms, State.withPart_scanner]
  cases move with
  | none => exact State.applyConfig_of_same c rfl rfl rfl rfl
  | some b => exact State.applyConfig_of_same c rfl rfl rfl rfl

theorem exec_outcomeWrite_configured {o : ReqOutcome} {note : Nat} {move : Option Nat} (hgrant : s.grant = some .outcomeWrite)
    (hprogress : s.engine.progress = some (.answered o note (.configured c move))) :
    ∃ u, exec .outcomeWrite s = finish s u ∧ u.lines = (s.applyConfig c).lines ∧ u.terms = (s.applyConfig c).terms
      ∧ u.scanner = (s.applyConfig c).scanner := by
  let s1 := (s.charge .outcomeWrite).writeBytes ((s.charge .outcomeWrite).requestAddr + 2) (outcomeBytes o note)
  obtain ⟨hlines, hterms, hscanner⟩ := s1.completeReload_blocks c move
  obtain ⟨hlines1, hterms1, hscanner1⟩ := State.applyConfig_of_same (t := s1) (s := s) c rfl rfl rfl rfl
  refine ⟨s1.completeReload c move, ?_, hlines.trans hlines1, hterms.trans hterms1, hscanner.trans hscanner1⟩
  show finish s _ = _
  rw [State.serve_granted hgrant]
  unfold State.writeOutcome
  simp only [State.charge_engine, hprogress]
  rfl

theorem State.line_applyConfig (hlines : t.lines = (s.applyConfig c).lines) (hn : n < 16) :
    t.line n = pumpIfActive (fun k => (c.term k).drop) (s.lineAfter c n) := by
  unfold State.line
  rw [hlines]
  exact Table.at0_build _ _ hn

theorem State.term_applyConfig (hterms : t.terms = (s.applyConfig c).terms) (hk : 1 ≤ k ∧ k ≤ 64) :
    t.term k = s.termAfter c k := by
  have hindex : k - 1 + 1 = k := Nat.sub_add_cancel hk.1
  unfold State.term
  rw [hterms]
  refine (Table.at1_build _ _ (Nat.ne_of_gt hk.1) hk.2).trans ?_
  rw [hindex]

/-! ## What becomes of a line (R132) -/

theorem LineCfg.differs_eq (a b : LineCfg) : a.differs b = !SameFraming a b := by
  unfold LineCfg.differs SameFraming
  simp only [Bool.not_and, bne]

theorem State.lineChange_eq (s : State) (c : LoadedConfig) (n : Nat) :
    let was := ActiveIn s.part (s.line n).cfg
    let is := ActiveIn .running (c.line n)
    let same := SameFraming (s.line n).cfg (c.line n)
    s.lineChange c n = ⟨was && !(is && same), is && !(was && same), was && is && same⟩ := by
  unfold State.lineChange
  simp only [LineCfg.differs_eq, Bool.not_and, Bool.not_not]
  rfl

theorem State.dropAfter_eq (s : State) (c : LoadedConfig) (n d : Nat) : s.dropAfter c n d
    = dropAfterReload (c.line n) (s.lineChange c n).started (s.lineChange c n).stays (s.terminalOn n d) (c.terminalOn n d)
      ((s.line n).drops.at0 none d) := by
  unfold State.dropAfter dropAfterReload
  cases hmode : (c.line n).mode with
  | direct => simp
  | shared =>
    cases c.terminalOn n d with
    | none => simp
    | some k => simp [Drop.fresh]

/-- R132: the line with its new configuration, drop records and poll pointer. -/
def State.lineKept (s : State) (c : LoadedConfig) (n : Nat) : Line :=
  { s.line n with
    cfg := c.line n
    drops := Table.build 4 (s.dropAfter c n)
    pollPtr := if (c.line n).mode = .direct then none else if (s.lineChange c n).started = true then some 3
      else (s.line n).pollPtr }

/-- R132: the line without the rows and the key of the terminals that leave it. -/
def State.lineLeft (s : State) (c : LoadedConfig) (n : Nat) : Line :=
  { s.lineKept c n with
    queue := (s.line n).queue.filter (fun q => !s.leavesLine c n q.terminal)
    buffer := (s.line n).buffer.filter (fun q => !s.leavesLine c n q.terminal) }

/-- R132: the row being sent is one of a terminal that leaves the line. -/
def State.rowLost (s : State) (c : LoadedConfig) (n : Nat) : Bool :=
  (s.line n).tx == .row && (s.line n).queue.head?.any (fun q => s.leavesLine c n q.terminal)

/-- R132, R139: the terminal of the polled drop leaves the line. -/
def State.pollLost (s : State) (c : LoadedConfig) (n : Nat) : Bool :=
  (s.line n).inPoll && ((s.line n).pollPtr.bind (s.terminalOn n)).any (s.leavesLine c n)

theorem State.rowLost_iff : s.rowLost c n = true
    ↔ (s.line n).tx = .row ∧ ∃ q rest, (s.line n).queue = q :: rest ∧ s.leavesLine c n q.terminal = true := by
  unfold State.rowLost
  cases (s.line n).queue <;> simp

theorem State.pollLost_iff : s.pollLost c n = true
    ↔ ((s.line n).tx = .poll ∨ (s.line n).tx = .wait ∨ (s.line n).tx = .answer)
      ∧ ∃ d k, (s.line n).pollPtr = some d ∧ s.terminalOn n d = some k ∧ s.leavesLine c n k = true := by
  unfold State.pollLost Line.inPoll
  simp only [Bool.and_eq_true, Bool.or_eq_true, beq_iff_eq, Line.polling_iff, Option.any_eq_true, Option.bind_eq_some_iff]
  constructor
  · rintro ⟨htx, k, ⟨d, hptr, hterm⟩, hleaves⟩
    exact ⟨htx, d, k, hptr, hterm, hleaves⟩
  · rintro ⟨htx, d, k, hptr, hterm, hleaves⟩
    exact ⟨htx, k, ⟨d, hptr, hterm⟩, hleaves⟩

theorem State.rowLost_of_pollLost (h : s.pollLost c n = true) : s.rowLost c n = false := by
  obtain ⟨htx, -⟩ := State.pollLost_iff.mp h
  have hrow : (s.line n).tx ≠ .row := by rcases htx with htx | htx | htx <;> simp [htx]
  simp [State.rowLost, hrow]

theorem State.nothing_lost_of_idle (h : (s.line n).tx = .idle) : s.rowLost c n = false ∧ s.pollLost c n = false := by
  simp [State.rowLost, State.pollLost, Line.inPoll, Line.polling, h]

theorem State.lineAfter_stops {b : Bool} (h : s.lineChange c n = ⟨true, b, false⟩) :
    s.lineAfter c n = (s.lineKept c n).stop := by
  unfold State.lineAfter State.lineKept
  rw [h]
  cases (c.line n).mode <;> rfl

theorem State.lineAfter_starts (h : s.lineChange c n = ⟨false, true, false⟩) :
    s.lineAfter c n = (s.lineKept c n).idled := by
  unfold State.lineAfter State.lineKept
  rw [h]
  cases (c.line n).mode <;> rfl

theorem State.lineAfter_off (h : s.lineChange c n = ⟨false, false, false⟩) : s.lineAfter c n = s.lineKept c n := by
  unfold State.lineAfter State.lineKept
  rw [h]
  cases (c.line n).mode <;> rfl

theorem firstTerminal_any (f : Nat → Bool) (queue : List RowRec) : (match queue with
    | q :: _ => f q.terminal
    | [] => false) = queue.head?.any (fun q => f q.terminal) := by
  cases queue <;> rfl

theorem terminal_any (f : Nat → Bool) (k : Option Nat) : (match k with
    | some t => f t
    | none => false) = k.any f := by
  cases k <;> rfl

theorem State.lineAfter_stays (h : s.lineChange c n = ⟨false, false, true⟩) : s.lineAfter c n
    = (s.lineKept c n).afterLeaving (s.leavesLine c n) (s.rowLost c n) (s.pollLost c n) := by
  unfold State.lineAfter State.lineKept
  rw [h]
  cases (c.line n).mode <;> exact congr
    (congrArg (Line.afterLeaving _ (s.leavesLine c n)) (congrArg _ (firstTerminal_any ..))) (congrArg _ (terminal_any ..))

theorem State.lineKept_eq (s : State) (c : LoadedConfig) (n : Nat) :
    let change := s.lineChange c n
    s.lineKept c n = { s.line n with
      cfg := c.line n
      drops := Table.build 4 (fun d => dropAfterReload (c.line n) change.started change.stays
        (onDrop (fun k => (s.term k).cfg) n d) (onDrop c.term n d) ((s.line n).drops.at0 none d))
      pollPtr := if (c.line n).mode = .direct then none else if change.started = true then some 3
        else (s.line n).pollPtr } := by
  have hdrops : s.dropAfter c n = _ := funext (s.dropAfter_eq c n)
  unfold State.lineKept
  rw [hdrops]
  rfl

/-! ## What the transmitter of a line does in the event -/

variable {d : Nat → Nat}

theorem pumpIfActive_on {l : Line} (h : activeUnder .running l.cfg = true) : pumpIfActive d l = l.pump d := if_pos h

theorem pumpIfActive_off {l : Line} (h : activeUnder .running l.cfg = false) : pumpIfActive d l = l :=
  if_neg (by simp [h])

theorem State.stopped_off {b : Bool} (h : s.lineChange c n = ⟨true, b, false⟩) (his : activeUnder .running (c.line n) = false) :
    pumpIfActive d (s.lineAfter c n) = (s.lineKept c n).stop := by
  rw [State.lineAfter_stops h]
  exact pumpIfActive_off his

theorem State.stopped_on {b : Bool} (h : s.lineChange c n = ⟨true, b, false⟩) (his : activeUnder .running (c.line n) = true) :
    RowOver d (s.lineKept c n).stop (pumpIfActive d (s.lineAfter c n)) := by
  rw [State.lineAfter_stops h, pumpIfActive_on (by exact his)]
  exact Line.pump_idle rfl rfl

theorem State.started_on (h : s.lineChange c n = ⟨false, true, false⟩) (his : activeUnder .running (c.line n) = true) :
    RowOver d (s.lineKept c n).idled (pumpIfActive d (s.lineAfter c n)) := by
  rw [State.lineAfter_starts h, pumpIfActive_on (by exact his)]
  exact Line.pump_idle rfl rfl

theorem State.unused_off (h : s.lineChange c n = ⟨false, false, false⟩) (his : activeUnder .running (c.line n) = false) :
    pumpIfActive d (s.lineAfter c n) = s.lineKept c n := by
  rw [State.lineAfter_off h]
  exact pumpIfActive_off his

theorem State.rowLost_on (h : s.lineChange c n = ⟨false, false, true⟩) (his : activeUnder .running (c.line n) = true)
    (hlost : s.rowLost c n = true) : RowOver d (s.lineLeft c n).giveUp (pumpIfActive d (s.lineAfter c n)) := by
  have hafter : s.lineAfter c n = (s.lineLeft c n).giveUp.afterRow := by
    rw [State.lineAfter_stays h, hlost]
    rfl
  rw [hafter, pumpIfActive_on (by rw [Line.cfg_afterRow]; exact his)]
  exact Line.pump_afterRow rfl

theorem State.pollLost_on (h : s.lineChange c n = ⟨false, false, true⟩) (his : activeUnder .running (c.line n) = true)
    (hrow : s.rowLost c n = false) (hlost : s.pollLost c n = true) :
    PollOver d (s.lineLeft c n).giveUp (pumpIfActive d (s.lineAfter c n)) := by
  have hafter : s.lineAfter c n = (s.lineLeft c n).giveUp.afterPoll := by
    rw [State.lineAfter_stays h, hrow, hlost]
    rfl
  rw [hafter, pumpIfActive_on (by rw [Line.cfg_afterPoll]; exact his)]
  exact Line.pump_afterPoll rfl

theorem State.stays_on (h : s.lineChange c n = ⟨false, false, true⟩) (his : activeUnder .running (c.line n) = true)
    (hrow : s.rowLost c n = false) (hpoll : s.pollLost c n = false) :
    pumpIfActive d (s.lineAfter c n) = (s.lineLeft c n).pump d := by
  have hafter : s.lineAfter c n = s.lineLeft c n := by
    rw [State.lineAfter_stays h, hrow, hpoll]
    rfl
  rw [hafter]
  exact pumpIfActive_on his

/-- A line that stays active was active, with the same framing, and neither stops nor starts. -/
theorem stays_excludes {was is same : Bool} (h : (was && is && same) = true) :
    (was && !(is && same)) = false ∧ (is && !(was && same)) = false ∧ is = true := by
  revert was is same
  decide

theorem stops_excludes {was is same : Bool} (h : (was && !(is && same)) = true) : (was && is && same) = false := by
  revert was is same
  decide

/-! ## Dirty sets after the event (R134, R152) -/

theorem State.mem_discardedRows {q : RowRec} : q ∈ s.discardedRows c n ↔ q ∈ (s.line n).queue
    ∧ ((s.lineChange c n).stopped = true ∨ ((s.lineChange c n).stays = true ∧ s.leavesLine c n q.terminal = true)) := by
  unfold State.discardedRows
  dsimp only
  cases (s.lineChange c n).stopped with
  | true => simp
  | false =>
    cases (s.lineChange c n).stays with
    | true => simp
    | false => simp

/-- R132, R152: the event repaints terminal `k`. -/
theorem State.repaints_iff (hk : (c.term k).enabled = true) :
    let old := (s.term k).cfg
    let change := s.lineChange c (c.term k).line
    s.repaints c k = true ↔ change.started = true
      ∨ (change.stays = true ∧ ¬(old.enabled = true ∧ old.line = (c.term k).line ∧ old.drop = (c.term k).drop))
      ∨ (old.enabled = true ∧ old.screen ≠ (c.term k).screen) := by
  unfold State.repaints State.joinsLine
  simp [hk, or_assoc, eq_comm (a := (c.term k).drop), Decidable.imp_iff_not_or]

theorem State.dirtyAfter_iff (hk : (c.term k).enabled = true) (r : Nat) : s.dirtyAfter c k r = true
    ↔ s.repaints c k = true ∨ (s.term k).dirty.at0 false r = true
      ∨ ∃ m q, m < 16 ∧ q ∈ (s.line m).queue ∧ q.terminal = k ∧ q.row = r
        ∧ ((s.lineChange c m).stopped = true ∨ ((s.lineChange c m).stays = true ∧ s.leavesLine c m k = true)) := by
  have hdiscarded : lineNumbers.any (fun m => (s.discardedRows c m).any (fun q => q.terminal == k && q.row == r)) = true
      ↔ ∃ m q, m < 16 ∧ q ∈ (s.line m).queue ∧ q.terminal = k ∧ q.row = r
        ∧ ((s.lineChange c m).stopped = true ∨ ((s.lineChange c m).stays = true ∧ s.leavesLine c m k = true)) := by
    simp only [List.any_eq_true, Bool.and_eq_true, beq_iff_eq, State.mem_discardedRows]
    constructor
    · rintro ⟨m, hm, q, ⟨hq, hleaves⟩, rfl, hrow⟩
      exact ⟨m, q, List.mem_range.mp hm, hq, rfl, hrow, hleaves⟩
    · rintro ⟨m, q, hm, hq, rfl, hrow, hleaves⟩
      exact ⟨m, List.mem_range.mpr hm, q, ⟨hq, hleaves⟩, rfl, hrow⟩
  unfold State.dirtyAfter
  rw [Bool.and_eq_true, Bool.or_eq_true, Bool.or_eq_true, hdiscarded, or_assoc]
  exact and_iff_right hk

theorem State.lastTakenAfter_eq (hk : (c.term k).enabled = true) :
    s.lastTakenAfter c k = if (s.term k).cfg.enabled = true then (s.term k).lastTaken else none := by
  unfold State.lastTakenAfter
  rw [hk]
  rfl

end

/-- Settles O41: each line goes through one change (`lineAfter`), and each terminal becomes what `termAfter` makes of it. -/
theorem linesFollowTheReload : Obligations.LinesFollowTheReload := by
  intro s o note c move hgrant hprogress old map cfg was is same stops starts stays leaves dropOf
  obtain ⟨u, hexec, hlines, hterms, hscanner⟩ := exec_outcomeWrite_configured hgrant hprogress
  obtain ⟨htouches, hrows⟩ := State.compose_recomposed s u false
  have hchange : ∀ n, s.lineChange c n = ⟨stops n, starts n, stays n⟩ := s.lineChange_eq c
  refine ⟨State.compose s u false, hexec, ?_, ?_, fun n hn => ?_, fun k h1 h64 hk => ?_⟩
  · rw [htouches.scanner_eq, hscanner]
    rfl
  · rw [htouches.scanner_eq, hscanner]
    rfl
  · intro l kept stopped left givenUp rowLost pollLost frames
    rw [State.line_of_lines htouches.lines_eq, State.line_applyConfig hlines hn]
    have hkept : s.lineKept c n = kept := by
      rw [State.lineKept_eq, hchange]
      rfl
    have hleft : s.lineLeft c n = left := by
      unfold State.lineLeft
      rw [hkept]
      rfl
    have hgivenUp : (s.lineLeft c n).giveUp = givenUp := by
      rw [hleft]
      rfl
    have hstop : (s.lineKept c n).stop = stopped := by
      rw [hkept]
      rfl
    have hstopped (h : stops n = true) : s.lineChange c n = ⟨true, starts n, false⟩ := by
      have hstays : stays n = false := stops_excludes h
      rw [hchange, h, hstays]
    have hstay (h : stays n = true) : s.lineChange c n = ⟨false, false, true⟩ ∧ is n = true := by
      obtain ⟨hstops, hstarts, his⟩ : stops n = false ∧ starts n = false ∧ is n = true := stays_excludes h
      refine ⟨?_, his⟩
      rw [hchange, hstops, hstarts, h]
    refine ⟨fun hwas his => ?unused, fun hstops his => ?stops, fun hstops his => ?restarts, fun hwas his => ?starts,
      fun hstays hlost => ?row, fun hstays hlost => ?poll, fun hstays htx hhold => ?idle,
      fun hstays hrow hpoll htx hmove hproduce => ?goesOn⟩
    case unused =>
      have hoff : s.lineChange c n = ⟨false, false, false⟩ := by simp [hchange, stops, starts, stays, hwas, his]
      exact (State.unused_off hoff his).trans hkept
    case stops =>
      rw [← hstop]
      exact State.stopped_off (hstopped hstops) his
    case restarts =>
      rw [← hstop]
      exact State.stopped_on (hstopped hstops) his
    case starts =>
      have hstarts : s.lineChange c n = ⟨false, true, false⟩ := by simp [hchange, stops, starts, stays, hwas, his]
      rw [← hkept]
      exact State.started_on hstarts his
    case row =>
      rw [← hgivenUp]
      obtain ⟨hstayed, his⟩ := hstay hstays
      exact State.rowLost_on hstayed his (State.rowLost_iff.mpr hlost)
    case poll =>
      rw [← hgivenUp]
      obtain ⟨hstayed, his⟩ := hstay hstays
      have hpoll : s.pollLost c n = true := State.pollLost_iff.mpr hlost
      exact State.pollLost_on hstayed his (State.rowLost_of_pollLost hpoll) hpoll
    case idle =>
      obtain ⟨hstayed, his⟩ := hstay hstays
      obtain ⟨hrow, hpoll⟩ := State.nothing_lost_of_idle (c := c) htx
      rw [State.stays_on hstayed his hrow hpoll, hleft]
      exact Line.pump_idle htx hhold
    case goesOn =>
      obtain ⟨hstayed, his⟩ := hstay hstays
      rw [State.stays_on hstayed his (by simpa using mt State.rowLost_iff.mp hrow)
        (by simpa using mt State.pollLost_iff.mp hpoll), hleft]
      exact Line.pump_settled htx ⟨hmove, hproduce⟩
  · intro n joins repaint dirtyAfter
    have hrepaint : s.repaints c k = true ↔ repaint := by
      refine (State.repaints_iff hk).trans ?_
      rw [hchange]
      exact Iff.rfl
    have hdirty (r : Nat) : s.dirtyAfter c k r = true ↔ dirtyAfter r := by
      rw [State.dirtyAfter_iff hk, hrepaint]
      simp only [hchange]
      rfl
    have hterm : u.term k = s.termAfter c k := State.term_applyConfig hterms ⟨h1, h64⟩
    have hrow (r : Nat) (hr : r < 24) : (u.term k).dirty.at0 false r = s.dirtyAfter c k r := by
      rw [hterm]
      exact Table.at0_build _ _ hr
    obtain ⟨-, -, hlastTaken, hcomposed⟩ := hrows k
    refine ⟨fun r hr => ?_, fun hafter => ?_, ?_⟩
    · rw [(hcomposed r).resolve_right fun c => absurd c.1 (Nat.ne_of_lt hr), hrow r (by omega), hdirty]
    · rcases hcomposed 23 with hsame | ⟨-, hset⟩
      · rw [hsame, hrow 23 (by decide)]
        exact (hdirty 23).mpr hafter
      · exact hset
    · rw [hlastTaken, hterm]
      exact State.lastTakenAfter_eq hk

end Sys2Proof.Machine

/-! # What every step keeps (R47, R65, R90, R126, R161 to R169)

`Keeps` says that an operation keeps each invariant: the canonical form of memory, the level of ATTN, the ranges, and
that PASS-THROUGH has no RELOAD or load in progress; `Preserves` says besides that it leaves the part state alone. Both
are transitive, so each operation of the model is taken once, from those that it is made of. The resets, the entry into
PASS-THROUGH and the completion of a RELOAD move the part state and are taken by themselves. -/

/-! ## The ranges block by block -/

namespace Sys2Proof.Machine

-- As in the tests: proofs elaborated one after another keep the threads of a compile within the memory limit.
set_option Elab.async false

/-- R90: the write queue holds at most 8 entries, and its counter is 16 bits wide. -/
def Path.InRange (p : Path) : Prop := p.queue.length ≤ 8 ∧ p.counter < 65536

/-- R161: both indices of the request ring. -/
def Engine.InRange (e : Engine) : Prop := e.consumer < 32 ∧ e.latest < 32

/-- R163: the indices of the notice ring. -/
def NoticeWriter.InRange (w : NoticeWriter) : Prop := w.reserved < 64 ∧ w.published < 64 ∧ w.consumer < 64

/-- R47: the time of the production day, and the second counter. -/
def Clock.InRange (c : Clock) : Prop := c.time < secondsPerDay ∧ c.second < refclkPerSecond

theorem rangesRight_iff {s : State} : RangesRight s ↔
    s.path.InRange ∧ s.engine.InRange ∧ s.notices.InRange ∧ s.clock.InRange ∧ s.link.timer ≤ 255 := by
  unfold RangesRight Path.InRange Engine.InRange NoticeWriter.InRange Clock.InRange
  simp only [and_assoc]

/-! ## Operations that keep the part state and the invariants -/

/-- From `s` to `t` each invariant of every step is kept but that of R65. -/
structure Keeps (s t : State) : Prop where
  memory : MemoryRight s → MemoryRight t
  attn : AttnRight s → AttnRight t
  ranges : RangesRight s → RangesRight t
  pass : PassRight s → PassRight t

/-- The invariants are kept, and the part state stays. -/
structure Preserves (s t : State) : Prop extends Keeps s t where
  part : t.part = s.part

theorem Keeps.trans {s t u : State} (h1 : Keeps s t) (h2 : Keeps t u) : Keeps s u where
  memory := h2.memory ∘ h1.memory
  attn := h2.attn ∘ h1.attn
  ranges := h2.ranges ∘ h1.ranges
  pass := h2.pass ∘ h1.pass

theorem Preserves.refl (s : State) : Preserves s s := ⟨⟨id, id, id, id⟩, rfl⟩

theorem Preserves.trans {s t u : State} (h1 : Preserves s t) (h2 : Preserves t u) : Preserves s u :=
  ⟨h1.toKeeps.trans h2.toKeeps, h2.part.trans h1.part⟩

theorem Preserves.ite {s t u : State} {c : Prop} [Decidable c] (h1 : Preserves s t) (h2 : Preserves s u) :
    Preserves s (if c then t else u) := by
  split
  · exact h1
  · exact h2

theorem Preserves.foldl {α : Type} {f : State → α → State} (h : ∀ s a, Preserves s (f s a)) (l : List α) (s : State) :
    Preserves s (l.foldl f s) := by
  induction l generalizing s with
  | nil => exact .refl s
  | cons a l ih => exact (h s a).trans (ih _)

/-- The regions that none of these invariants reads. -/
def freeRegions : List Region :=
  [.cause, .base, .marks, .stories, .baskets, .copyfit, .pages, .sendQueue, .lines, .terms, .scanner, .free, .pending]

theorem Preserves.of_touches_timed {l : List Region} {s t : State} (h : Touches l s t)
    (hclock : s.clock.InRange → t.clock.InRange) (hlink : s.link.timer ≤ 255 → t.link.timer ≤ 255)
    (hl : l.all (fun r => (.clock :: .link :: freeRegions).contains r) = true := by decide) : Preserves s t := by
  replace h : Touches (.clock :: .link :: freeRegions) s t := h.weaken hl
  have hpart := h.part_eq
  have hengine := h.engine_eq
  refine ⟨⟨?_, ?_, ?_, ?_⟩, hpart⟩
  · unfold MemoryRight
    rw [h.mem_eq]
    exact id
  · unfold AttnRight
    rw [h.pins_eq, hpart, h.notices_eq]
    exact id
  · intro hs
    obtain ⟨hpath, hrequests, hnotices, htime, htimer⟩ := rangesRight_iff.mp hs
    rw [rangesRight_iff, h.path_eq, hengine, h.notices_eq]
    exact ⟨hpath, hrequests, hnotices, hclock htime, hlink htimer⟩
  · unfold PassRight State.reloadInProgress
    rw [hpart, hengine]
    exact id

theorem Preserves.of_touches {l : List Region} {s t : State} (h : Touches l s t)
    (hl : l.all (fun r => freeRegions.contains r) = true := by decide) : Preserves s t := by
  replace h : Touches freeRegions s t := h.weaken hl
  refine .of_touches_timed h ?_ ?_
  · rw [h.clock_eq]
    exact id
  · rw [h.link_eq]
    exact id

/-! ### One block replaced -/

section
variable {s : State}

theorem State.withPath_preserves {p : Path} (h : s.path.InRange → p.InRange) : Preserves s (s.withPath p) where
  part := rfl
  memory := id
  attn := id
  ranges hs := by
    obtain ⟨hpath, hrest⟩ := rangesRight_iff.mp hs
    exact rangesRight_iff.mpr ⟨h hpath, hrest⟩
  pass := id

theorem State.withNotices_preserves {w : NoticeWriter} (h : s.notices.InRange → w.InRange)
    (hpublished : w.published = s.notices.published) (hconsumer : w.consumer = s.notices.consumer) :
    Preserves s (s.withNotices w) where
  part := rfl
  memory := id
  attn hs := by
    unfold AttnRight attnLevel at hs ⊢
    rw [State.withNotices_notices, hpublished, hconsumer]
    exact hs
  ranges hs := by
    obtain ⟨hpath, hengine, hnotices, hrest⟩ := rangesRight_iff.mp hs
    exact rangesRight_iff.mpr ⟨hpath, hengine, h hnotices, hrest⟩
  pass := id

theorem State.withClock_preserves {c : Clock} (h : s.clock.InRange → c.InRange) : Preserves s (s.withClock c) where
  part := rfl
  memory := id
  attn := id
  ranges hs := by
    obtain ⟨hpath, hengine, hnotices, hclock, hlink⟩ := rangesRight_iff.mp hs
    exact rangesRight_iff.mpr ⟨hpath, hengine, hnotices, h hclock, hlink⟩
  pass := id

theorem State.withLink_preserves {l : Link} (h : s.link.timer ≤ 255 → l.timer ≤ 255) : Preserves s (s.withLink l) where
  part := rfl
  memory := id
  attn := id
  ranges hs := by
    obtain ⟨hpath, hengine, hnotices, hclock, hlink⟩ := rangesRight_iff.mp hs
    exact rangesRight_iff.mpr ⟨hpath, hengine, hnotices, hclock, h hlink⟩
  pass := id

theorem State.withEngine_preserves {e : Engine} (h : s.engine.InRange → e.InRange)
    (hpass : PassRight s → PassRight (s.withEngine e)) : Preserves s (s.withEngine e) where
  part := rfl
  memory := id
  attn := id
  ranges hs := by
    obtain ⟨hpath, hengine, hrest⟩ := rangesRight_iff.mp hs
    exact rangesRight_iff.mpr ⟨hpath, h hengine, hrest⟩
  pass := hpass

theorem State.withPins_preserves {x : Pins} (h : x.attn = s.pins.attn) : Preserves s (s.withPins x) where
  part := rfl
  memory := id
  attn := h.trans
  ranges := id
  pass := id

theorem State.writeBytes_preserves (a : Nat) (bs : List Byte) : Preserves s (s.writeBytes a bs) where
  part := rfl
  memory := Memory.wf_writeBytes s.mem a bs
  attn := id
  ranges := id
  pass := id

/-- R164: ATTN is driven after a change of an index. -/
theorem State.withNotices_driveAttn_preserves {w : NoticeWriter} (h : s.notices.InRange → w.InRange) :
    Preserves s (s.withNotices w).driveAttn where
  part := rfl
  memory := id
  attn _ := rfl
  ranges hs := by
    obtain ⟨hpath, hengine, hnotices, hrest⟩ := rangesRight_iff.mp hs
    exact rangesRight_iff.mpr ⟨hpath, hengine, h hnotices, hrest⟩
  pass := id

/-! ### Shared operations -/

theorem State.notify_preserves (s : State) (n : Notice) : Preserves s (s.notify n) := by
  unfold State.notify
  refine .ite (State.withNotices_preserves id rfl rfl) (State.withNotices_preserves ?_ rfl rfl)
  rintro ⟨-, hpublished, hconsumer⟩
  exact ⟨Nat.mod_lt _ (by decide), hpublished, hconsumer⟩

/-- An answered request is neither a RELOAD nor a load in progress. -/
theorem State.answer_preserves (s : State) (o : ReqOutcome) (note : Nat) : Preserves s (s.answer o note) :=
  State.withEngine_preserves id fun _ _ => ⟨rfl, nofun⟩

theorem Preserves.answer {t : State} (h : Preserves s t) (o : ReqOutcome) (note : Nat) :
    Preserves s (t.answer o note) :=
  h.trans (t.answer_preserves o note)

/-- A check of a request answers its refusal on the state as it is. -/
theorem Preserves.check {t : State} {c : Prop} [Decidable c] {o : ReqOutcome} {note : Nat} (h : Preserves s t) :
    Preserves s (if c then s.answer o note else t) := .ite (s.answer_preserves o note) h

theorem State.charge_preserves (s : State) (o : MemOp) : Preserves s (s.charge o) := by
  unfold State.charge
  split
  case h_1 => exact .refl s
  case h_2 => exact .ite (.refl s) (State.withPath_preserves id)
  all_goals exact State.withPath_preserves id

theorem Preserves.serve {f : State → State} (h : ∀ s, Preserves s (f s)) (o : MemOp) : Preserves s (s.serve o f) :=
  .ite ((s.charge_preserves o).trans (h _)) (.refl s)

theorem State.compose_preserves (s0 s : State) (force : Bool) : Preserves s (State.compose s0 s force) :=
  .of_touches (State.compose_touches s0 s force)

theorem Preserves.mark {t : State} (h : Preserves s t) (i : MarkItem) : Preserves s (t.mark i) :=
  h.trans (.of_touches (State.mark_touches ..))

theorem State.setRefusedFlag_preserves (s : State) (c : ContextKind) (v : Bool) :
    Preserves s (s.setRefusedFlag c v) := by
  unfold State.setRefusedFlag
  refine .ite (.refl s) ?_
  split
  all_goals
    refine .mark ?_ _
    exact State.withNotices_preserves id rfl rfl

theorem State.setEdition_preserves (s : State) (e : Nat) (r : Edition) : Preserves s (s.setEdition e r) := by
  unfold State.setEdition
  refine .ite (.refl s) (.mark ?_ _)
  exact State.withClock_preserves id

theorem State.setLink_preserves {l : Link} (h : s.link.timer ≤ 255 → l.timer ≤ 255) : Preserves s (s.setLink l) := by
  unfold State.setLink
  exact .ite (State.withLink_preserves h) (.mark (State.withLink_preserves h) _)

end

/-! ## The edition clock (chapter 3) -/

section
variable (s : State) (e : Nat)

theorem State.judgePage_preserves (p : Nat) : Preserves s (s.judgePage e p) := by
  unfold State.judgePage
  refine .ite (.ite (.of_touches (State.releasePage_touches ..)) ?_) (.refl s)
  exact (Preserves.of_touches (State.setPage_touches ..)).trans (State.notify_preserves ..)

theorem State.beginWindow_preserves (r : Edition) : Preserves s (s.beginWindow e r) :=
  (s.setEdition_preserves e _).trans (State.notify_preserves ..)

theorem State.closeEdition_preserves : Preserves s (s.closeEdition e) :=
  ((Preserves.foldl (State.judgePage_preserves · e) pageIndices s).trans (State.setEdition_preserves ..)).trans
    (State.notify_preserves ..)

theorem State.lockoutStep_preserves : Preserves s (s.lockoutStep e) := .ite (s.setEdition_preserves e _) (.refl s)

theorem State.closeStep_preserves : Preserves s (s.closeStep e) :=
  .ite (.ite (s.beginWindow_preserves e _) (s.closeEdition_preserves e)) (.refl s)

theorem State.graceEndStep_preserves : Preserves s (s.graceEndStep e) :=
  .ite (.ite (s.beginWindow_preserves e _) (s.closeEdition_preserves e)) (.refl s)

theorem State.evaluate_preserves : Preserves s (s.evaluate e) := by
  have hclosed := (s.lockoutStep_preserves e).trans (State.closeStep_preserves _ e)
  exact .ite (.ite (hclosed.trans (State.graceEndStep_preserves _ e)) hclosed) (.refl s)

theorem State.evaluateEvent_preserves : Preserves s (s.evaluateEvent e) :=
  (s.evaluate_preserves e).trans (State.compose_preserves ..)

theorem State.evaluateAll_preserves : Preserves s s.evaluateAll := by
  unfold State.evaluateAll
  split
  · exact .refl s
  · exact s.evaluateEvent_preserves _
  · exact (Preserves.of_touches (State.withFree_touches ..)).trans (.foldl State.evaluateEvent_preserves ..)

theorem State.rollover_preserves : Preserves s s.rollover :=
  .foldl (fun s e => (s.setEdition_preserves e _).mark _) ..

theorem State.linkTimerTick_preserves : Preserves s s.linkTimerTick :=
  .ite (State.setLink_preserves fun _ => Nat.min_le_left ..) (.refl s)

/-- R47: the time wraps at the end of the production day. -/
theorem State.nextSecond_preserves : Preserves s s.nextSecond :=
  State.withClock_preserves fun _ => ⟨Nat.mod_lt _ (by decide), (by decide : 0 < refclkPerSecond)⟩

theorem State.secondEvaluated_preserves : Preserves s s.secondEvaluated :=
  .ite (.refl s) (.ite (s.rollover_preserves.trans (State.evaluateAll_preserves _)) s.evaluateAll_preserves)

theorem State.advance_preserves : Preserves s s.advance :=
  ((s.nextSecond_preserves.trans (State.linkTimerTick_preserves _)).trans (State.secondEvaluated_preserves _)).mark _

theorem State.refclkPeriod_preserves : Preserves s (refclkPeriod s) := by
  unfold refclkPeriod
  split
  case isTrue => exact s.advance_preserves.trans (State.compose_preserves ..)
  case isFalse hearly => exact State.withClock_preserves fun h => ⟨h.1, Nat.lt_of_not_le hearly⟩

theorem doSettime_preserves (r : Request) : Preserves s (doSettime r s) := by
  unfold doSettime
  refine .check (.answer ?_ ..)
  have hset : Preserves s (s.withClock { s.clock with time := min 86399 (r.u32 8), second := 0 }) :=
    State.withClock_preserves fun _ =>
      ⟨Nat.lt_of_le_of_lt (Nat.min_le_left ..) (by decide), (by decide : 0 < refclkPerSecond)⟩
  exact ((hset.trans (State.evaluateAll_preserves _)).mark _).trans (State.compose_preserves ..)

theorem doSchedule_preserves (r : Request) : Preserves s (doSchedule r s) := by
  unfold doSchedule
  exact .check (.check (.answer (((s.setEdition_preserves ..).trans (State.evaluate_preserves ..)).mark _) ..))

theorem doHold_preserves (r : Request) : Preserves s (doHold r s) := by
  have hheld (x : Edition) (note : Nat) : Preserves s ((s.setEdition (r.u8 8) x).answer .done note) :=
    (s.setEdition_preserves ..).answer ..
  unfold doHold
  refine .check (.check (.check ?_))
  split
  · exact s.answer_preserves ..
  · exact .check (hheld ..)
  · exact .check (hheld ..)
  · exact .check (.check (hheld ..))

end

end Sys2Proof.Machine

/-! ## Requests that answer on the tables alone (chapters 1, 2 and 4) -/

namespace Sys2Proof.Machine

set_option Elab.async false

section
variable (r : Request) (s : State)

theorem doRegister_preserves : Preserves s (doRegister r s) := by
  unfold doRegister
  refine .check (.check (.check (.check (.answer ?_ ..))))
  exact ((Preserves.of_touches (State.setStory_touches ..)).trans (.of_touches (State.joinBasket_touches ..))).trans
    (.of_touches (State.joinRecount_touches ..))

theorem doTake_preserves : Preserves s (doTake r s) := by
  unfold doTake
  exact .check (.check (.check (.check (.check (.check (.check
    (.answer (.of_touches (State.setStory_touches ..)) ..)))))))

theorem doReturn_preserves : Preserves s (doReturn r s) := by
  unfold doReturn
  exact .check (.check (.check (.answer (.of_touches (State.setStory_touches ..)) ..)))

theorem doFile_preserves : Preserves s (doFile r s) := by
  unfold doFile
  exact .check (.check (.check (.check (.answer (.of_touches (State.fileTo_touches ..)) ..))))

theorem doKill_preserves : Preserves s (doKill r s) := by
  unfold doKill
  exact .check (.check (.check (.check (.answer (.of_touches (State.killStory_touches ..)) ..))))

theorem doPurge_preserves : Preserves s (doPurge r s) := by
  unfold doPurge
  refine .check (.check (.check (.answer ?_ ..)))
  exact (Preserves.of_touches (State.abandonForPurge_touches ..)).trans (.of_touches (State.setStory_touches ..))

theorem doStyle_preserves : Preserves s (doStyle r s) := by
  unfold doStyle
  exact .check (.check (.check (.check (.answer (.of_touches (State.setStyle_touches ..)) ..))))

theorem doAllot_preserves : Preserves s (doAllot r s) := by
  unfold doAllot
  refine .check (.check (.check (.check (.answer ?_ ..))))
  exact (Preserves.of_touches (State.setHole_touches ..)).trans (.of_touches (State.setPlacementHole_touches ..))

theorem doSetpage_preserves : Preserves s (doSetpage r s) := by
  unfold doSetpage
  exact .check (.check (.check (.check (.answer (.of_touches (State.setPage_touches ..)) ..))))

theorem doPlace_preserves : Preserves s (doPlace r s) := by
  unfold doPlace
  exact .check (.check (.check (.check (.check (.check (.check (.check (.check
    (.answer (.of_touches (State.placeStory_touches ..)) ..)))))))))

theorem doUnplace_preserves : Preserves s (doUnplace r s) := by
  unfold doUnplace
  refine .check (.check ?_)
  split
  · exact s.answer_preserves ..
  · exact .check (.answer (.of_touches (State.removePlacement_touches ..)) ..)

theorem doRelease_preserves : Preserves s (doRelease r s) := by
  unfold doRelease
  exact .check (.check (.check (.check (.check (.check (.check
    (.answer (.of_touches (State.releasePage_touches ..)) ..)))))))

theorem doReopen_preserves : Preserves s (doReopen r s) := by
  unfold doReopen
  refine .check (.check (.check (.check (.answer ?_ ..))))
  exact (Preserves.of_touches (State.setPage_touches ..)).trans
    (.foldl (fun _ _ => .of_touches (State.fileBack_touches ..)) ..)

theorem doClear_preserves : Preserves s (doClear r s) := by
  unfold doClear
  refine .check (.check (.check (.check (.answer ?_ ..))))
  exact (Preserves.of_touches (State.setPage_touches ..)).trans
    (.foldl (fun _ _ => .of_touches (State.clearStory_touches ..)) ..)

theorem doResume_preserves : Preserves s (doResume r s) := by
  have hqueued (g : Page) (q : List Nat) : Preserves s ((s.setPage r.page g).setSendQueue q) :=
    (Preserves.of_touches (State.setPage_touches ..)).trans (.of_touches (State.setSendQueue_touches ..))
  unfold doResume
  refine .check (.check (.check (.check (.ite ((hqueued ..).answer ..) (.answer ?_ ..)))))
  exact (hqueued ..).trans (.foldl (fun _ _ => .of_touches (State.requeueSet_touches ..)) ..)

theorem doLineclear_preserves : Preserves s (doLineclear r s) := by
  unfold doLineclear
  exact .check (.check (.answer (.mark (.of_touches (State.setLine_touches ..)) _) ..))

end

/-! ## Loads of width tables and RELOAD: requests that stay in progress (R26, R166) -/

section
variable {s : State}

/-- R169: outside PASS-THROUGH any request may be in progress. -/
theorem State.withProgress_preserves {x : Option Progress} (h : PassRight s → s.part ≠ .passThrough) :
    Preserves s (s.withEngine { s.engine with progress := x }) :=
  State.withEngine_preserves id fun hs hpass => absurd hpass (h hs)

theorem State.completeLoad_preserves (s : State) (f : Nat) (table : Table 224 Nat) (loaded : Bool) (clamped : Nat) :
    Preserves s (s.completeLoad f table loaded clamped) := by
  unfold State.completeLoad
  refine .answer (.trans ?_ (.foldl (fun _ _ => .of_touches (State.enterRecount_touches ..)) ..)) ..
  have hloaded (x : Copyfit) : Preserves s ((s.withCopyfit x).mark (.widths f)) :=
    .mark (.of_touches (State.withCopyfit_touches ..)) _
  exact .ite (hloaded _) ((hloaded _).mark _)

theorem doLoadwidths_preserves (r : Request) (h : s.part ≠ .passThrough) : Preserves s (doLoadwidths r s) := by
  unfold doLoadwidths
  exact .check (.check (.ite (s.completeLoad_preserves ..) (.check (State.withProgress_preserves fun _ => h))))

/-- R26: the pieces of a load are read outside PASS-THROUGH alone. -/
theorem State.widthPiece_preserves {f src clamped : Nat} {ws : List Nat}
    (h : s.engine.progress = some (.loadingWidths f src ws clamped)) : Preserves s (s.widthPiece f src ws clamped) := by
  unfold State.widthPiece
  exact .ite (s.completeLoad_preserves ..)
    (State.withProgress_preserves fun hs hpass => (hs hpass).2 f src ws clamped h)

theorem doReload_preserves (r : Request) (h : s.part ≠ .passThrough) : Preserves s (doReload r s) := by
  unfold doReload
  exact .check (.check (State.withProgress_preserves fun _ => h))

/-! ### The dispatch of a request (R162, R169) -/

theorem State.linkAsks_rank {o : MemOp} (h : s.linkAsks = some o) : o.rank = 2 := by
  unfold State.linkAsks at h
  split at h
  · split at h
    · split at h <;> cases h
      rfl
    · cases h
  · cases h

/-- R97: an engine operation of class 3 is chosen only when a requester of the class asks for it. -/
theorem State.class3Asks_of_engineOp {o : MemOp} (h : s.engineOp = some o) (hrank : o.rank = 3) :
    ∃ i, s.class3Asks i = some o := by
  unfold State.engineOp at h
  simp only [Option.or_eq_some_iff] at h
  obtain hline | ⟨-, hlink | ⟨-, hclass | ⟨-, hscanner | ⟨-, hlast⟩⟩⟩⟩ := h
  · obtain ⟨i, hi⟩ := inRotation_asked hline
    cases (State.lineAsks_rank hi).symm.trans hrank
  · cases (State.linkAsks_rank hlink).symm.trans hrank
  · exact inRotation_asked hclass
  · cases (State.scannerAsks_rank hscanner).symm.trans hrank
  · obtain ⟨i, hi⟩ := inRotation_asked hlast
    cases (State.class5Asks_rank hi).symm.trans hrank

theorem State.part_of_engineAsks (h : s.engineAsks = some .requestRead) : s.part ≠ .passThrough := by
  unfold State.engineAsks at h
  split at h
  case h_1 =>
    split at h
    case isTrue hasks => exact hasks.1
    case isFalse => cases h
  case h_5 => split at h <;> cases h
  all_goals cases h

/-- R169: no request is taken in PASS-THROUGH. -/
theorem State.part_of_requestRead (h : s.grant = some .requestRead) : s.part ≠ .passThrough := by
  obtain ⟨i, hi⟩ := State.class3Asks_of_engineOp (State.engineOp_of_grant h (by decide)) rfl
  unfold State.class3Asks at hi
  split at hi
  · exact State.part_of_engineAsks hi
  split at hi
  · unfold State.noticesAsk at hi
    split at hi
    · cases hi
    · split at hi <;> cases hi
  · obtain ⟨k, -, hk⟩ := Option.map_eq_some_iff.mp hi
    cases hk

theorem State.checkRequest_preserves {r : Request} {owner : Request → State → State}
    (h : Preserves s (owner r s)) : Preserves s (s.checkRequest r owner) := .check (.check (.check h))

theorem State.dispatch_preserves {isKind : Nat → Bool} {owner : Request → State → State}
    (h : ∀ r (s : State), s.part ≠ .passThrough → Preserves s (owner r s)) : Preserves s (s.dispatch isKind owner) := by
  refine .ite ?_ (.refl s)
  unfold State.serve
  split
  case isTrue hgrant =>
    have hcharge := s.charge_preserves .requestRead
    have hpart : (s.charge .requestRead).part ≠ .passThrough :=
      fun c => State.part_of_requestRead hgrant (hcharge.part.symm.trans c)
    exact hcharge.trans (State.checkRequest_preserves (h _ _ hpart))
  case isFalse => exact .refl s

end

/-! ## The typesetter link (chapter 7) -/

section
variable (s : State)

theorem State.linkPump_preserves : Preserves s s.linkPump := by
  have hproduce (s : State) : Preserves s s.linkProduce := by
    unfold State.linkProduce
    refine .ite ?_ (.refl s)
    split
    · exact State.withLink_preserves id
    · exact .refl s
  have hmove (s : State) : Preserves s s.linkMove := .ite (State.withLink_preserves id) (.refl s)
  exact ((hproduce s).trans (hmove _)).trans (hproduce _)

theorem State.takePage_preserves (p : Nat) (q : List Nat) : Preserves s (s.takePage p q) := by
  have hstarted (g : Page) (l : List Nat) : Preserves s (l.foldl State.startSending ((s.setPage p g).setSendQueue q)) :=
    ((Preserves.of_touches (State.setPage_touches ..)).trans (.of_touches (State.setSendQueue_touches ..))).trans
      (.foldl (fun s n => .of_touches (State.startSending_touches s n)) ..)
  exact ((hstarted ..).trans (State.setLink_preserves fun _ => Nat.zero_le _)).trans (State.linkPump_preserves _)

theorem State.readLinkPiece_preserves (c : SendCtx) (i x : Nat) : Preserves s (s.readLinkPiece c i x) := by
  refine .trans (t := s.withLink _) ?_ (State.linkPump_preserves _)
  exact State.withLink_preserves id

theorem State.sendComplete_preserves (c : SendCtx) : Preserves s (s.sendComplete c) :=
  ((Preserves.of_touches (State.setPage_touches ..)).trans (State.notify_preserves ..)).trans
    (State.setLink_preserves fun _ => Nat.zero_le _)

theorem State.frameComplete_preserves (c : SendCtx) (o : Origin) : Preserves s (s.frameComplete c o) := by
  cases o with
  | storyEnd i => exact (Preserves.of_touches (State.storyComplete_touches ..)).trans (State.linkPump_preserves _)
  | pageEnd => exact s.sendComplete_preserves c
  | pageStart => exact s.linkPump_preserves
  | setup i => exact s.linkPump_preserves
  | text i x => exact s.linkPump_preserves

theorem State.linkFault_preserves (c : SendCtx) (cause : Cause) : Preserves s (s.linkFault c cause) := by
  have hstopped (g : Page) (l : List Nat) : Preserves s (l.foldl State.stopSending (s.setPage c.page g)) :=
    (Preserves.of_touches (State.setPage_touches ..)).trans
      (.foldl (fun _ _ => .of_touches (State.stopSending_touches ..)) ..)
  exact ((hstopped ..).trans (State.notify_preserves ..)).trans (State.setLink_preserves fun _ => Nat.zero_le _)

end

/-! ## Terminal lines and key rings (chapter 8) -/

section
variable (s : State) (n : Nat)

theorem State.setLine_preserves (l : Line) : Preserves s (s.setLine n l) := .of_touches (State.setLine_touches ..)

theorem State.setLineFlag_preserves (f : LineFlag) (c : Cause) : Preserves s (s.setLineFlag n f c) :=
  .ite (.refl s) ((s.setLine_preserves n _).trans (State.notify_preserves ..))

theorem State.dropChanged_preserves (d : Nat) (r r' : Drop) : Preserves s (s.dropChanged n d r r') := by
  have hnoted (k : Option Nat) : Preserves s (s.dropNoted n r r' k) := .ite (.refl s) (s.notify_preserves _)
  rw [State.dropChanged_eq]
  split
  · exact .ite ((hnoted _).trans (.of_touches (State.markAllDirty_touches ..))) (hnoted _)
  · exact hnoted _

theorem State.endPoll_preserves (answered : Bool) : Preserves s (s.endPoll n answered) := by
  unfold State.endPoll
  dsimp only
  split
  · exact .refl s
  split
  · exact .of_touches (State.runLine_touches ..)
  · exact (s.dropChanged_preserves ..).trans (.of_touches (State.runLine_touches ..))

theorem State.deliverKey_preserves (k : Nat) (kind : KeyKind) (code : Byte) :
    Preserves s (s.deliverKey n k kind code) := by
  unfold State.deliverKey
  split
  · exact s.setLine_preserves ..
  · exact s.setLineFlag_preserves ..

theorem State.answerFrame_preserves (f : RxFrame) : Preserves s (s.answerFrame n f) := by
  have hcounted (isKey : Bool) : Preserves s (s.countAnswerFrame n isKey) := s.setLine_preserves ..
  unfold State.answerFrame
  refine .ite ((hcounted _).trans (State.endPoll_preserves ..)) (.ite ?_ ?_)
  · exact ((hcounted _).trans (State.setLineFlag_preserves ..)).trans (State.endPoll_preserves ..)
  · dsimp only
    split
    · exact (hcounted _).trans (State.deliverKey_preserves ..)
    · exact hcounted _

theorem State.routeFrame_preserves (solicited : Bool) (v : FrameVerdict) (f : RxFrame) :
    Preserves s (s.routeFrame n solicited v f) := by
  unfold State.routeFrame
  split
  · refine .ite ?_ (s.setLineFlag_preserves ..)
    split
    · exact s.deliverKey_preserves ..
    · exact .refl s
  · refine .ite (.ite (s.answerFrame_preserves ..) ?_) (s.setLineFlag_preserves ..)
    exact (s.setLine_preserves ..).trans (State.setLineFlag_preserves ..)

theorem State.completeFrame_preserves (solicited : Bool) (f : RxFrame) : Preserves s (s.completeFrame n solicited f) :=
  .ite (s.setLine_preserves ..) ((s.setLine_preserves ..).trans (State.routeFrame_preserves ..))

theorem State.breakOn_preserves : Preserves s (s.breakOn n) := by
  have hresync := s.setLine_preserves n { s.line n with rx := .resync }
  unfold State.breakOn
  dsimp only
  split
  · split
    · exact hresync.trans (State.deliverKey_preserves ..)
    · exact hresync
  · have hflag := hresync.trans (State.setLineFlag_preserves _ n .brk .brk)
    exact .ite (hflag.trans (State.endPoll_preserves ..)) hflag

/-! ### Key rings (R111, R145, R146) -/

theorem State.keyloss_preserves (k : Nat) (c : Cause) (story : Nat) : Preserves s (s.keyloss k c story) :=
  s.notify_preserves _

theorem State.setRing_preserves (k : Nat) (g : Ring) : Preserves s (s.setRing k g) :=
  .of_touches (State.setRing_touches ..)

theorem State.loseToFullRing_preserves (k : Nat) (g : Ring) : Preserves s (s.loseToFullRing k g) := by
  unfold State.loseToFullRing
  dsimp only
  split
  · exact s.keyloss_preserves ..
  · exact (((s.setRing_preserves ..).trans (State.writeBytes_preserves ..)).trans (State.keyloss_preserves ..)).trans
      (.of_touches (State.uncountedWrite_touches ..))

theorem State.writeKey_preserves (k : Nat) (g : Ring) (x : KeyRec) : Preserves s (s.writeKey k g x) := by
  unfold State.writeKey
  dsimp only
  split
  · exact s.keyloss_preserves ..
  · exact (((s.setRing_preserves ..).trans (State.writeBytes_preserves ..)).trans (State.writeBytes_preserves ..)).trans
      (.foldl (fun _ _ => .of_touches (State.enterRecount_touches ..)) ..)

theorem State.keyServed_preserves : Preserves s (s.keyServed n) := by
  unfold State.keyServed
  split
  case h_2 => exact .refl s
  case h_1 x _ =>
    have hfreed := s.setLine_preserves n { s.line n with buffer := none }
    unfold State.keyGranted
    dsimp only
    split
    · exact hfreed
    · exact .ite (.ite hfreed (hfreed.trans (State.loseToFullRing_preserves ..)))
        (hfreed.trans (State.writeKey_preserves ..))

theorem State.headerServed_preserves (k : Nat) : Preserves s (s.headerServed k) := by
  unfold State.headerServed
  split
  case h_2 => exact .refl s
  case h_1 g _ =>
    have hasked := s.setRing_preserves k { g with headerAsked := false }
    unfold State.headerGranted
    dsimp only
    split
    · exact hasked
    · exact (hasked.trans (State.writeBytes_preserves ..)).trans (.of_touches (State.uncountedWrite_touches ..))

end

/-! ## The memory path (chapters 5 and 6) -/

section
variable (s : State)

theorem State.busform_preserves (a n : Nat) (c : Cause) : Preserves s (s.busform a n c) := s.notify_preserves _

theorem State.refuseWrite_preserves (r : Refused) : Preserves s (s.refuseWrite r) :=
  (Preserves.ite (.refl s) (s.notify_preserves _)).trans (State.setRefusedFlag_preserves ..)

theorem State.presentRead_preserves (a n : Nat) : Preserves s (s.presentRead a n) := by
  have hread {t : State} (h : Preserves s t) (data : Option (List Byte)) (wait : Option ReadWait) :
      Preserves s (t.withPath { t.path with readData := data, read := wait }) :=
    h.trans (State.withPath_preserves id)
  have hnoted : Preserves s (if alignedAt a n = true ∨ s.part = .passThrough then s else s.busform a n .read) :=
    .ite (.refl s) (s.busform_preserves ..)
  exact .ite (.refl s) (.ite (hread hnoted ..) (hread hnoted ..))

theorem State.completeRead_preserves (r : ReadWait) : Preserves s (s.completeRead r) := by
  have hfree : Preserves s (if beyond r.addr r.size = true then s.withFree (s.free + 1) else s) :=
    .ite (.of_touches (State.withFree_touches ..)) (.refl s)
  refine hfree.trans ?_
  exact State.withPath_preserves id

/-- R90: a write that enters finds the queue with room. -/
theorem State.enqueue_preserves {s : State} (h : s.path.queue.length < 8) (a : Nat) (bs : List Byte)
    (members : List (List Membership)) : Preserves s (s.enqueue a bs members) :=
  State.withPath_preserves fun _ => ⟨by rw [List.length_append]; exact h, Nat.mod_lt _ (by decide)⟩

theorem State.latchContext_preserves (a : Nat) (bs : List Byte) : Preserves s (s.latchContext a bs) := by
  refine .ite ?_ (.refl s)
  exact State.withPath_preserves id

theorem State.acceptWrite_preserves {s : State} (h : s.path.queue.length < 8) (a : Nat) (bs : List Byte) :
    Preserves s (s.acceptWrite a bs) := by
  unfold State.acceptWrite
  dsimp only
  generalize hs1 : (if s.onlyContext a bs.length = true then s else s.setRefusedFlag s.contextKind false) = s1
  generalize hs2 : (if s.partialLive a bs.length = true then s1.busform a bs.length .partWord else s1) = s2
  have hcleared : Preserves s s1 ∧ Touches [.notices, .marks] s s1 := by
    rw [← hs1]
    exact ⟨.ite (.refl s) (s.setRefusedFlag_preserves ..), .ite (.refl _ s) (State.setRefusedFlag_touches ..).weaken⟩
  have hnoted : Preserves s1 s2 ∧ Touches [.notices, .marks] s1 s2 := by
    rw [← hs2]
    exact ⟨.ite (s1.busform_preserves ..) (.refl s1), .ite (State.busform_touches ..).weaken (.refl _ s1)⟩
  have hroom : s2.path.queue.length < 8 := by rwa [(hcleared.2.trans hnoted.2).path_eq]
  exact ((hcleared.1.trans hnoted.1).trans (State.enqueue_preserves hroom ..)).trans (State.latchContext_preserves ..)

theorem State.enterAligned_preserves {s : State} (h : s.path.queue.length < 8) (a : Nat) (bs : List Byte) :
    Preserves s (s.enterAligned a bs) := by
  refine .ite ((State.enqueue_preserves h ..).trans (State.latchContext_preserves ..)) ?_
  split
  · exact s.refuseWrite_preserves _
  · exact State.acceptWrite_preserves h ..

theorem State.enterMisaligned_preserves {s : State} (h : s.path.queue.length < 8) (a : Nat) (bs : List Byte) :
    Preserves s (s.enterMisaligned a bs) := by
  have hroom : (s.busform a bs.length .write).path.queue.length < 8 := by rwa [(State.busform_touches ..).path_eq]
  exact .ite (State.enqueue_preserves h ..) (.ite (s.busform_preserves ..)
    ((s.busform_preserves ..).trans (State.enqueue_preserves hroom ..)))

theorem State.enterWrite_preserves {s : State} (h : s.path.queue.length < 8) (a : Nat) (bs : List Byte) :
    Preserves s (s.enterWrite a bs) :=
  .ite (State.enterAligned_preserves h a bs) (State.enterMisaligned_preserves h a bs)

theorem State.presentWrite_preserves (a : Nat) (bs : List Byte) : Preserves s (s.presentWrite a bs) := by
  refine .ite (.refl s) ?_
  split
  case isTrue => exact State.withPath_preserves id
  case isFalse hroom => exact State.enterWrite_preserves (Nat.lt_of_not_le hroom) a bs

/-! ### Drains (R91, R93) -/

theorem State.handOver_preserves (a : Nat) (old new : Byte) (value : Nat) (m : Membership) :
    Preserves s (s.handOver a old new value m) := by
  cases m with
  | text n off => exact .of_touches (State.textDrained_touches ..)
  | screen k => exact .ite (.of_touches (State.markScreens_touches ..)) (.refl s)
  | requestProducer =>
    refine State.withEngine_preserves (fun h => ⟨h.1, Nat.mod_lt _ (by decide)⟩) id
  | noticeConsumer =>
    exact State.withNotices_driveAttn_preserves fun h => ⟨h.1, h.2.1, Nat.mod_lt _ (by decide)⟩
  | keyConsumer k => exact .of_touches (State.ringConsumerDrained_touches ..)
  | contextWord | partWritten _ | hostLocation | plain => exact .refl s

theorem State.handOverBytes_preserves (value : Nat) (olds : List Byte) : ∀ (s : State) (a : Nat) (news : List Byte)
    (members : List (List Membership)), Preserves s (State.handOverBytes value s a olds news members) := by
  induction olds with
  | nil => exact fun s _ _ _ => .refl s
  | cons old olds ih =>
    intro s a news members
    match news, members with
    | [], _ => exact .refl s
    | _ :: _, [] => exact .refl s
    | new :: news, ms :: mss =>
      exact (Preserves.foldl (fun s m => s.handOver_preserves a old new value m) ms s).trans (ih ..)

theorem State.drainOldest_preserves : Preserves s s.drainOldest := by
  unfold State.drainOldest
  split
  case h_2 => exact .refl s
  case h_1 e q hqueue =>
    have hleft : Preserves s (s.withPath { s.path with queue := q }) :=
      State.withPath_preserves fun h => ⟨Nat.le_of_succ_le (hqueue ▸ h.1 :), h.2⟩
    have hannounced (t : State) : Preserves t (t.announceDrain e.seq) :=
      (Preserves.of_touches (State.withCopyfit_touches ..)).trans (State.withLink_preserves id)
    have hdrained : Preserves s (s.drainToMemory e q) :=
    (hleft.trans (State.writeBytes_preserves ..)).trans (hannounced _)
    refine hdrained.trans (.ite (.refl _) ?_)
    have hhanded (t : State) (value : Nat) (olds : List Byte) :=
      State.handOverBytes_preserves value olds t e.addr e.data e.members
    exact .ite (hhanded ..) ((hhanded ..).trans (.of_touches (State.uncountedWrite_touches ..)))

end

end Sys2Proof.Machine

/-! ## The control area (chapter 10) -/

namespace Sys2Proof.Machine

set_option Elab.async false

section
variable {s : State}

/-! ### The part's own writes (R162, R163, R170) -/

theorem State.writeConsumerWord_preserves (s : State) : Preserves s s.writeConsumerWord :=
  (s.writeBytes_preserves ..).trans (State.withEngine_preserves id fun _ _ => ⟨rfl, nofun⟩)

theorem State.writeProducerWord_preserves (s : State) : Preserves s s.writeProducerWord :=
  (s.writeBytes_preserves ..).trans (State.withNotices_preserves id rfl rfl)

theorem State.writeNotice_preserves (s : State) : Preserves s s.writeNotice := by
  unfold State.writeNotice
  split
  · exact (s.writeBytes_preserves ..).trans
      (State.withNotices_driveAttn_preserves fun h => ⟨h.1, Nat.mod_lt _ (by decide), h.2.2⟩)
  · exact .refl s

theorem State.writeItem_preserves (s : State) (i : MarkItem) : Preserves s (s.writeItem i) := by
  refine (s.writeBytes_preserves (s.base + i.offset) (s.itemBytes i)).trans ?_
  exact ⟨⟨id, id, id, id⟩, rfl⟩

/-- R162: the consumer index wraps from 31 to 0. -/
theorem State.advanceConsumer_preserves (s : State) : Preserves s s.advanceConsumer :=
  State.withEngine_preserves (fun h => ⟨Nat.mod_lt _ (by decide), h.2⟩) fun _ _ => ⟨rfl, nofun⟩

/-! ### A RELOAD is read and validated (R166, R167, R169) -/

theorem State.haltBlocks_preserves (s : State) : Preserves s s.haltBlocks := by
  have hlines (l : List Nat) : Preserves s (l.foldl State.haltLine s) := .foldl (fun s n => s.setLine_preserves n _) ..
  have hstories (t : State) (l : List Nat) : Preserves t (l.foldl (fun s n => s.joinRecount n none) t) :=
    .foldl (fun s n => .of_touches (State.joinRecount_touches s n none)) ..
  have hrest {t : State} (h : Preserves s t) (x : Table 64 Terminal) (v : Scanner) :
      Preserves s (((t.withLink t.link.halt).withTerms x).withScanner v) :=
    have hlink : Preserves t (t.withLink t.link.halt) := State.withLink_preserves id
    ((h.trans hlink).trans (.of_touches (State.withTerms_touches ..))).trans
      (.of_touches (State.withScanner_touches ..))
  exact hrest ((hlines _).trans (hstories ..)) ..

/-- R169: once the blocks have stopped, the part state word is marked, the PASS notice handed over, and ATTN driven. -/
def State.passEntered (s : State) : State :=
  let s1 := ((s.withPart .passThrough).withCause .badBase).mark .partState
  (s1.notify (s1.notice .pass .badBase)).driveAttn

theorem State.enterPassThrough_eq (s : State) : s.enterPassThrough = s.haltBlocks.passEntered.answer .badArg 0 := by
  unfold State.enterPassThrough
  generalize s.haltBlocks = t
  rfl

theorem State.passEntered_part (s : State) : s.passEntered.part = .passThrough ∧ s.passEntered.cause = .badBase := by
  unfold State.passEntered
  simp only [State.driveAttn_part, State.driveAttn_cause, State.notify_part, State.notify_cause, State.mark_part,
    State.mark_cause, State.withCause_part, State.withCause_cause, State.withPart_part, and_self]

theorem State.enterPassThrough_part (s : State) :
    s.enterPassThrough.part = .passThrough ∧ s.enterPassThrough.cause = .badBase := by
  rw [State.enterPassThrough_eq, State.answer_part, State.answer_cause]
  exact s.haltBlocks.passEntered_part

/-- R169: the request is answered at the entry into PASS-THROUGH, so none is in progress. -/
theorem State.passEntered_keeps (s : State) : Keeps s (s.passEntered.answer .badArg 0) := by
  have hnoted (t : State) (n : Notice) : Preserves t ((t.mark .partState).notify n) :=
    ((Preserves.refl t).mark _).trans (State.notify_preserves ..)
  exact {
    memory := fun hs => (hnoted ((s.withPart .passThrough).withCause .badBase) _).memory hs
    attn := fun _ => rfl
    ranges := fun hs => (hnoted ((s.withPart .passThrough).withCause .badBase) _).ranges hs
    pass := fun _ _ => ⟨rfl, nofun⟩ }

theorem State.enterPassThrough_keeps (s : State) : Keeps s s.enterPassThrough := by
  rw [State.enterPassThrough_eq]
  exact s.haltBlocks_preserves.toKeeps.trans (State.passEntered_keeps _)

/-- R166: a RELOAD whose pieces are read is in progress, so the part is not in PASS-THROUGH. -/
theorem PassRight.part_of_reloading {bytes : List Byte} (hs : PassRight s)
    (h : s.engine.progress = some (.reloading bytes)) : s.part ≠ .passThrough := by
  intro hpass
  obtain ⟨hreload, -⟩ := hs hpass
  unfold State.reloadInProgress at hreload
  rw [h] at hreload
  cases hreload

/-- R166, R167: a piece of a RELOAD moves the part state where it enters PASS-THROUGH, and nowhere else. -/
theorem State.reloadPiece_cases {bytes : List Byte} (h : s.engine.progress = some (.reloading bytes)) :
    Preserves s (s.reloadPiece bytes) ∨ s.reloadPiece bytes = s.enterPassThrough := by
  have hprogress (x : Option Progress) : Preserves s (s.withEngine { s.engine with progress := x }) :=
    State.withProgress_preserves fun hs => hs.part_of_reloading h
  unfold State.reloadPiece State.validate
  dsimp only
  split
  · split
    · exact .inr rfl
    · exact .inl (.ite (hprogress _) (hprogress _))
  · exact .inl (hprogress _)

/-! ### A RELOAD takes effect (R168) -/

/-- R168: a move of the base sets every index to 0 and leaves the queue as long as it was. -/
theorem State.moveBase_ranges (b : Nat) (hs : RangesRight s) : RangesRight (s.moveBase b) := by
  obtain ⟨hpath, -, -, hclock, hlink⟩ := rangesRight_iff.mp hs
  have hmoved : (s.moveBase b).path.queue.length = s.path.queue.length := List.length_map ..
  exact rangesRight_iff.mpr
    ⟨⟨hmoved ▸ hpath.1, hpath.2⟩, ⟨Nat.zero_lt_succ _, Nat.zero_lt_succ _⟩,
      ⟨Nat.zero_lt_succ _, Nat.zero_lt_succ _, Nat.zero_lt_succ _⟩, hclock, hlink⟩

theorem State.applyConfig_preserves (s : State) (c : LoadedConfig) : Preserves s (s.applyConfig c) := by
  have hclock : (s.applyConfig c).clock = { s.clock with grace := c.grace } := rfl
  have hlink : (s.applyConfig c).link = { s.link with divisor := c.linkDivisor, timeout := c.linkTimeout } := rfl
  refine .of_touches_timed (State.applyConfig_touches s c) ?_ ?_
  · rw [hclock]
    exact fun h => ⟨h.1, h.2⟩
  · rw [hlink]
    exact id

/-- R168: RUNNING with the new configuration, every image marked and both index words asked for. -/
def State.running (s : State) (c : LoadedConfig) : State :=
  (((s.applyConfig c).withPart .running).withCause .reload).markAll

theorem State.running_ranges (c : LoadedConfig) (hs : RangesRight s) : RangesRight (s.running c) :=
  (Preserves.of_touches (State.markAll_touches _)).ranges ((s.applyConfig_preserves c).ranges hs)

theorem State.completeReload_eq (s : State) (c : LoadedConfig) (move : Option Nat) : s.completeReload c move
    = let t := (match move with
        | some b => s.moveBase b
        | none => s.advanceConsumer).running c
      ((t.withEngine { t.engine with wordFlag := true }).withNotices
        { t.notices with wordFlag := true }).driveAttn := by
  unfold State.completeReload State.running
  rfl

theorem State.completeReload_part (s : State) (c : LoadedConfig) (move : Option Nat) :
    (s.completeReload c move).part = .running ∧ (s.completeReload c move).cause = .reload := by
  rw [State.completeReload_eq]
  unfold State.running
  simp only [State.driveAttn_part, State.driveAttn_cause, State.withNotices_part, State.withNotices_cause,
    State.withEngine_part, State.withEngine_cause, State.markAll_part, State.markAll_cause, State.withCause_part,
    State.withCause_cause, State.withPart_part, and_self]

/-- R168: both index words are asked for, and ATTN driven, at the end of a RELOAD. -/
theorem State.completeReload_keeps (s : State) (c : LoadedConfig) (move : Option Nat) :
    Keeps s (s.completeReload c move) where
  memory := by
    unfold MemoryRight
    rw [(State.completeReload_touches s c move).mem_eq]
    exact id
  attn _ := by
    rw [State.completeReload_eq]
    rfl
  ranges hs := by
    rw [State.completeReload_eq]
    have hindices : RangesRight (match move with
        | some b => s.moveBase b
        | none => s.advanceConsumer) := by
      cases move with
      | some b => exact State.moveBase_ranges b hs
      | none => exact s.advanceConsumer_preserves.ranges hs
    exact State.running_ranges c hindices
  pass _ hpass := by
    rw [(s.completeReload_part c move).1] at hpass
    cases hpass

/-- R162, R168: an outcome write moves the part state where it completes a successful RELOAD, and nowhere else. -/
theorem State.writeOutcome_cases (s : State) : Preserves s s.writeOutcome
    ∨ ∃ o note c move, s.engine.progress = some (.answered o note (.configured c move))
      ∧ s.writeOutcome.part = .running ∧ s.writeOutcome.cause = .reload ∧ Keeps s s.writeOutcome := by
  unfold State.writeOutcome
  split
  case h_2 => exact .inl (.refl s)
  case h_1 o note after h =>
    have hwritten := s.writeBytes_preserves (s.requestAddr + 2) (outcomeBytes o note)
    unfold State.outcomeServed
    cases after with
    | plain => exact .inl (hwritten.trans (State.advanceConsumer_preserves _))
    | badConfig => exact .inl (hwritten.trans (State.advanceConsumer_preserves _))
    | configured c move =>
      obtain ⟨hpart, hcause⟩ := State.completeReload_part _ c move
      exact .inr ⟨o, note, c, move, h, hpart, hcause, hwritten.toKeeps.trans (State.completeReload_keeps ..)⟩

theorem State.writeOutcome_keeps (s : State) : Keeps s s.writeOutcome := by
  obtain h | ⟨o, note, c, move, -, -, -, h⟩ := s.writeOutcome_cases
  · exact h.toKeeps
  · exact h

end

/-! ## The resets (R101, R171) -/

section
variable (s : State)

/-- R101: the operation that a reset finishes leaves memory in its canonical form. -/
theorem State.memoryAtReset_wf (hs : MemoryRight s) : Memory.wf s.memoryAtReset = true := by
  unfold State.memoryAtReset
  split
  case h_2 => exact hs
  case h_1 o _ =>
    split
    case isFalse => exact hs
    case isTrue =>
      cases o with
      | drain => exact s.drainOldest_preserves.memory hs
      | keyRecord n => exact (s.keyServed_preserves n).memory hs
      | keyHeader n k => exact (s.headerServed_preserves k).memory hs
      | outcomeWrite => exact s.writeOutcome_keeps.memory hs
      | consumerWord => exact s.writeConsumerWord_preserves.memory hs
      | noticeRecord => exact s.writeNotice_preserves.memory hs
      | producerWord => exact s.writeProducerWord_preserves.memory hs
      | image i => exact (s.writeItem_preserves i).memory hs
      | processorRead | linkText | requestRead | reloadPiece | rowRead | recountPiece | widthPiece => exact hs

theorem State.powerReset_keeps : Keeps s s.powerReset where
  memory := s.memoryAtReset_wf
  attn _ := rfl
  ranges _ := resetMeetsTheInvariants.2.2.1
  pass _ hpass := nomatch hpass

theorem State.busReset_keeps : Keeps s s.busReset where
  memory := s.memoryAtReset_wf
  attn _ := rfl
  ranges hs := by
    obtain ⟨-, -, -, hclock, -⟩ := rangesRight_iff.mp hs
    obtain ⟨hpath, hengine, hnotices, -, hlink⟩ := rangesRight_iff.mp resetMeetsTheInvariants.2.2.1
    exact rangesRight_iff.mpr ⟨hpath, hengine, hnotices, hclock, hlink⟩
  pass _ hpass := nomatch hpass

end
end Sys2Proof.Machine

/-! ## Every command keeps the invariants -/

namespace Sys2Proof.Machine

set_option Elab.async false

section
variable {s t u : State} {n : Fin 16}

theorem Preserves.finish (h : Preserves s t) (hu : finish s t = .next u) : Preserves s u := by
  rw [finish_next hu]
  exact h.trans (State.compose_preserves ..)

theorem Keeps.finish (h : Keeps s t) (hu : Machine.finish s t = .next u) : Keeps s u := by
  rw [finish_next hu]
  exact h.trans (State.compose_preserves ..).toKeeps

/-! ### The commands of the link -/

theorem execSendStart_preserves (h : execSendStart s = .next t) : Preserves s t := by
  refine .finish ?_ h
  split
  · exact .ite (s.takePage_preserves ..) (.refl s)
  · exact .refl s

theorem execLinkTextRead_preserves (h : execLinkTextRead s = .next t) : Preserves s t := by
  refine .finish (.serve (fun s => ?_) _) h
  split
  · split
    · exact s.readLinkPiece_preserves ..
    · exact .refl s
  · exact .refl s

theorem execLinkShiftCompletion_preserves (h : execLinkShiftCompletion s = .next t) : Preserves s t := by
  have hempty : Preserves s (s.withLink { s.link with shift := none }) := State.withLink_preserves id
  refine .finish ?_ h
  dsimp only
  split
  · exact .refl s
  · split
    · exact hempty.trans (State.frameComplete_preserves ..)
    · exact hempty

theorem execLfaultAssert_preserves (h : execLfaultAssert s = .next t) : Preserves s t := by
  have hpin : Preserves s (s.withPins { s.pins with lfault := true }) := State.withPins_preserves rfl
  refine .finish (.ite (.refl s) ?_) h
  dsimp only
  split
  · exact hpin.trans (State.linkFault_preserves ..)
  · exact hpin

theorem execLinkTimeout_preserves (h : execLinkTimeout s = .next t) : Preserves s t := by
  refine .finish ?_ h
  split
  · exact .ite (s.linkFault_preserves ..) (.refl s)
  · exact .refl s

theorem execLreadyAssert_preserves (h : execLreadyAssert s = .next t) : Preserves s t := by
  have hpin : Preserves s (s.withPins { s.pins with lready := true }) := State.withPins_preserves rfl
  have hready (t : State) : Preserves t (t.setLink t.link.readied) := State.setLink_preserves fun htimer => by
    unfold Link.readied
    dsimp only
    split
    · exact htimer
    · exact Nat.zero_le _
  exact .finish (.ite (.refl s) ((hpin.trans (hready _)).trans (State.linkPump_preserves _))) h

/-! ### The commands of a line -/

theorem execLineShiftCompletion_preserves (h : execLineShiftCompletion n s = .next t) : Preserves s t := by
  refine .finish ?_ h
  dsimp only
  split
  · exact .refl s
  · exact .ite (.of_touches (State.runLine_touches ..)) (s.setLine_preserves ..)

theorem execAnswerGapExpiry_preserves (h : execAnswerGapExpiry n s = .next t) : Preserves s t :=
  .finish (.ite ((s.setLineFlag_preserves ..).trans (State.endPoll_preserves ..)) (.refl s)) h

theorem execReceiveFrame_preserves {f : RxFrame} (h : execReceiveFrame n f s = .next t) : Preserves s t := by
  refine .finish (.ite ?_ (.refl s)) h
  dsimp only
  split
  · exact (s.setLine_preserves ..).trans (State.completeFrame_preserves ..)
  all_goals exact .refl s

theorem execSpacingFrameReturnToMarking_preserves (h : execSpacingFrameReturnToMarking n s = .next t) :
    Preserves s t := by
  refine .finish (.ite ?_ (.refl s)) h
  split
  · exact (s.setLine_preserves ..).trans (State.routeFrame_preserves ..)
  all_goals exact .refl s

/-! ### The commands of the memory side -/

theorem execHeldWriteEntry_preserves (h : execHeldWriteEntry s = .next t) : Preserves s t := by
  refine .finish ?_ h
  split
  · split
    case isTrue hroom =>
      have hfreed : Preserves s (s.withPath { s.path with held := none }) := State.withPath_preserves id
      refine hfreed.trans (State.enterWrite_preserves ?_ ..)
      exact hroom
    case isFalse => exact .refl s
  · exact .refl s

theorem execProcessorReadData_preserves (h : execProcessorReadData s = .next t) : Preserves s t := by
  refine .finish (.serve (fun s => ?_) _) h
  split
  · exact s.completeRead_preserves _
  · exact .refl s

theorem execRecountPieceRead_preserves (h : execRecountPieceRead s = .next t) : Preserves s t := by
  refine .finish (.serve (fun s => ?_) _) h
  split
  · exact .of_touches (State.countPiece_touches ..)
  · exact .refl s

theorem execWidthPieceRead_preserves (h : execWidthPieceRead s = .next t) : Preserves s t := by
  refine .finish (.serve (fun s => ?_) _) h
  split
  case h_1 hprogress => exact State.widthPiece_preserves hprogress
  case h_2 => exact .refl s

theorem execImageWrite_preserves (h : execImageWrite s = .next t) : Preserves s t := by
  refine .finish ?_ h
  split
  · exact (s.charge_preserves _).trans (State.writeItem_preserves ..)
  · exact .refl s

theorem execKeyRingWrite_preserves (h : execKeyRingWrite s = .next t) : Preserves s t := by
  refine .finish ?_ h
  split
  · exact (s.charge_preserves _).trans (State.keyServed_preserves ..)
  · exact .refl s

theorem execKeyRingHeaderWrite_preserves (h : execKeyRingHeaderWrite s = .next t) : Preserves s t := by
  refine .finish ?_ h
  split
  · exact (s.charge_preserves _).trans (State.headerServed_preserves ..)
  · exact .refl s

theorem execRowTake_preserves (h : execRowTake s = .next t) : Preserves s t := by
  refine .finish (.serve (fun s => ?_) _) h
  split
  · exact .of_touches (State.rowReadDone_touches ..)
  · exact .refl s

theorem execScanVisit_preserves (h : execScanVisit s = .next t) : Preserves s t := by
  refine .finish (.ite ?_ (.refl s)) h
  split
  · exact .of_touches (State.visitOn_touches ..)
  · exact .refl s

/-- The drain by its own row or by that of a live word. -/
theorem execDrain_preserves : Preserves s (s.serve .drain State.drainOldest) := .serve State.drainOldest_preserves _

/-! ### Commands that move the part state (R165) -/

/-- The resets, and the commands that may complete a RELOAD or enter PASS-THROUGH. -/
def movesPart : List Instr := [.pwrrst, .busrst, .outcomeWrite, .reloadPieceRead]

/-- Every other command keeps the invariants and leaves the part state alone. -/
theorem exec_preserves {c : Instr} (hc : c ∉ movesPart) (h : exec c s = .next t) : Preserves s t := by
  cases c with
  | pwrrst | busrst | outcomeWrite | reloadPieceRead => exact absurd (by decide) hc
  | advance => exact .finish s.advance_preserves h
  | processorRead a k => exact .finish (s.presentRead_preserves ..) h
  | misalignedRead a k => exact .finish (s.presentRead_preserves ..) h
  | misalignedWrite a d => exact .finish (s.presentWrite_preserves ..) h
  | writeEntry a d => exact .finish (s.presentWrite_preserves ..) h
  | contextWordWrite v => exact .finish (s.presentWrite_preserves ..) h
  | heldWriteEntry => exact execHeldWriteEntry_preserves h
  | processorReadData => exact execProcessorReadData_preserves h
  | drain => exact .finish execDrain_preserves h
  | requestProducerIndexWrite => exact .finish (.ite execDrain_preserves (.refl s)) h
  | noticeConsumerIndexWrite => exact .finish (.ite execDrain_preserves (.refl s)) h
  | keyRingConsumerWrite => exact .finish (.ite execDrain_preserves (.refl s)) h
  | unknownRequest => exact .finish (State.dispatch_preserves fun _ s _ => s.answer_preserves ..) h
  | register => exact .finish (State.dispatch_preserves fun r s _ => doRegister_preserves r s) h
  | take => exact .finish (State.dispatch_preserves fun r s _ => doTake_preserves r s) h
  | returnStory => exact .finish (State.dispatch_preserves fun r s _ => doReturn_preserves r s) h
  | file => exact .finish (State.dispatch_preserves fun r s _ => doFile_preserves r s) h
  | kill => exact .finish (State.dispatch_preserves fun r s _ => doKill_preserves r s) h
  | purge => exact .finish (State.dispatch_preserves fun r s _ => doPurge_preserves r s) h
  | loadwidths => exact .finish (State.dispatch_preserves fun r _ => doLoadwidths_preserves r) h
  | style => exact .finish (State.dispatch_preserves fun r s _ => doStyle_preserves r s) h
  | allot => exact .finish (State.dispatch_preserves fun r s _ => doAllot_preserves r s) h
  | settime => exact .finish (State.dispatch_preserves fun r s _ => doSettime_preserves s r) h
  | schedule => exact .finish (State.dispatch_preserves fun r s _ => doSchedule_preserves s r) h
  | hold => exact .finish (State.dispatch_preserves fun r s _ => doHold_preserves s r) h
  | setpage => exact .finish (State.dispatch_preserves fun r s _ => doSetpage_preserves r s) h
  | place => exact .finish (State.dispatch_preserves fun r s _ => doPlace_preserves r s) h
  | unplace => exact .finish (State.dispatch_preserves fun r s _ => doUnplace_preserves r s) h
  | release => exact .finish (State.dispatch_preserves fun r s _ => doRelease_preserves r s) h
  | reopen => exact .finish (State.dispatch_preserves fun r s _ => doReopen_preserves r s) h
  | clear => exact .finish (State.dispatch_preserves fun r s _ => doClear_preserves r s) h
  | resume => exact .finish (State.dispatch_preserves fun r s _ => doResume_preserves r s) h
  | lineclear => exact .finish (State.dispatch_preserves fun r s _ => doLineclear_preserves r s) h
  | reload => exact .finish (State.dispatch_preserves fun r _ => doReload_preserves r) h
  | widthPieceRead => exact execWidthPieceRead_preserves h
  | recountStart => exact .finish (.of_touches s.startRecount_touches) h
  | recountPieceRead => exact execRecountPieceRead_preserves h
  | requestConsumerWrite => exact .finish (.serve State.writeConsumerWord_preserves _) h
  | noticeRecordWrite => exact .finish (.serve State.writeNotice_preserves _) h
  | noticeProducerWrite => exact .finish (.serve State.writeProducerWord_preserves _) h
  | imageWrite => exact execImageWrite_preserves h
  | sendStart => exact execSendStart_preserves h
  | linkTextRead => exact execLinkTextRead_preserves h
  | linkShiftCompletion => exact execLinkShiftCompletion_preserves h
  | lreadyAssert => exact execLreadyAssert_preserves h
  | lreadyDeassert =>
    refine .finish ?_ h
    exact State.withPins_preserves rfl
  | lfaultAssert => exact execLfaultAssert_preserves h
  | lfaultDeassert =>
    refine .finish ?_ h
    exact State.withPins_preserves rfl
  | linkTimeout => exact execLinkTimeout_preserves h
  | lineShiftCompletion n => exact execLineShiftCompletion_preserves h
  | vacantPollEnd n => exact .finish (.ite (.of_touches (State.runLine_touches ..)) (.refl s)) h
  | answerWindowExpiry n => exact .finish (.ite (s.endPoll_preserves ..) (.refl s)) h
  | answerGapExpiry n => exact execAnswerGapExpiry_preserves h
  | startBitDetect n => exact .finish (.ite (s.setLine_preserves ..) (.refl s)) h
  | receiveFrame n f => exact execReceiveFrame_preserves h
  | breakDetect n => exact .finish (.ite ((s.setLine_preserves ..).trans (State.breakOn_preserves ..)) (.refl s)) h
  | resyncEnd n => exact .finish (.ite (s.setLine_preserves ..) (.refl s)) h
  | spacingFrameReturnToMarking n => exact execSpacingFrameReturnToMarking_preserves h
  | keyRingWrite => exact execKeyRingWrite_preserves h
  | keyRingHeaderWrite => exact execKeyRingHeaderWrite_preserves h
  | scanVisit => exact execScanVisit_preserves h
  | rowTake => exact execRowTake_preserves h

/-- R168: an outcome write that moves the part state completes a RELOAD, which PASS-THROUGH has none of. -/
theorem exec_outcomeWrite_cases (h : exec .outcomeWrite s = .next t) : Preserves s t
    ∨ Keeps s t ∧ (PassRight s → s.part ≠ .passThrough) ∧ t.part = .running ∧ t.cause = .reload := by
  have hcharge := s.charge_preserves .outcomeWrite
  have hcompose (u : State) := State.compose_touches s u false
  rw [finish_next h]
  unfold State.serve
  split
  case isFalse => exact .inl (State.compose_preserves ..)
  case isTrue =>
    obtain hsame | ⟨o, note, c, move, hprogress, hpart, hcause, hkeeps⟩ := (s.charge .outcomeWrite).writeOutcome_cases
    · exact .inl ((hcharge.trans hsame).trans (State.compose_preserves ..))
    · refine .inr ⟨(hcharge.toKeeps.trans hkeeps).trans (State.compose_preserves ..).toKeeps, fun hs hpass => ?_,
        (hcompose _).part_eq.trans hpart, (hcompose _).cause_eq.trans hcause⟩
      obtain ⟨hreload, -⟩ := hs hpass
      rw [State.charge_engine] at hprogress
      unfold State.reloadInProgress at hreload
      rw [hprogress] at hreload
      cases hreload

/-- R167: a piece read that moves the part state enters PASS-THROUGH from another part state. -/
theorem exec_reloadPieceRead_cases (h : exec .reloadPieceRead s = .next t) : Preserves s t
    ∨ Keeps s t ∧ (PassRight s → s.part ≠ .passThrough) ∧ t.part = .passThrough ∧ t.cause = .badBase := by
  have hcharge := s.charge_preserves .reloadPiece
  have hcompose (u : State) := State.compose_touches s u false
  rw [finish_next h]
  unfold State.serve
  split
  case isFalse => exact .inl (State.compose_preserves ..)
  case isTrue =>
    dsimp only
    split
    case h_2 => exact .inl (hcharge.trans (State.compose_preserves ..))
    case h_1 bytes hprogress =>
      obtain hsame | hentered := State.reloadPiece_cases hprogress
      · exact .inl ((hcharge.trans hsame).trans (State.compose_preserves ..))
      · rw [hentered]
        obtain ⟨hpart, hcause⟩ := (s.charge .reloadPiece).enterPassThrough_part
        rw [State.charge_engine] at hprogress
        exact .inr ⟨(hcharge.toKeeps.trans (State.enterPassThrough_keeps _)).trans (State.compose_preserves ..).toKeeps,
          fun hs => hs.part_of_reloading hprogress, (hcompose _).part_eq.trans hpart,
          (hcompose _).cause_eq.trans hcause⟩

theorem exec_keeps {c : Instr} (h : exec c s = .next t) : Keeps s t := by
  by_cases hc : c ∈ movesPart
  case neg => exact (exec_preserves hc h).toKeeps
  case pos =>
    simp only [movesPart, List.mem_cons, List.not_mem_nil, or_false] at hc
    obtain rfl | rfl | rfl | rfl := hc
    · cases h
      exact s.powerReset_keeps
    · cases h
      exact s.busReset_keeps
    · obtain hsame | ⟨hkeeps, -⟩ := exec_outcomeWrite_cases h
      · exact hsame.toKeeps
      · exact hkeeps
    · obtain hsame | ⟨hkeeps, -⟩ := exec_reloadPieceRead_cases h
      · exact hsame.toKeeps
      · exact hkeeps

/-! ### Steps -/

theorem State.withPending_preserves (s : State) (l : List Instr) : Preserves s (s.withPending l) :=
  .of_touches (State.withPending_touches ..)

/-- A step is a period of REFCLK, or runs the command at the front of the queue. -/
theorem step_cases (h : step s = .next t) :
    (s.pending = [] ∧ t = refclkPeriod s)
      ∨ ∃ c rest, s.pending = c :: rest ∧ exec c (s.withPending rest) = .next t := by
  unfold step at h
  split at h
  case h_1 c rest hpending => exact .inr ⟨c, rest, hpending, h⟩
  case h_2 hpending =>
    cases h
    exact .inl ⟨hpending, rfl⟩

theorem step_keeps (h : step s = .next t) : Keeps s t := by
  obtain ⟨-, rfl⟩ | ⟨c, rest, -, hexec⟩ := step_cases h
  · exact s.refclkPeriod_preserves.toKeeps
  · exact (s.withPending_preserves rest).toKeeps.trans (exec_keeps hexec)

end

/-- Settles O57: each operation that a command is made of keeps the three invariants. -/
theorem everyStepKeepsMemoryAttnAndRanges : Obligations.EveryStepKeepsMemoryAttnAndRanges := by
  intro s t h
  obtain ⟨hmemory, hattn, hranges, -⟩ := step_keeps h
  exact ⟨hmemory, hattn, hranges⟩

/-- Settles O59: of all commands four can move the part state, and the two that are no resets find no RELOAD in
PASS-THROUGH. -/
theorem passThroughIsLeftOnlyByReset : Obligations.PassThroughIsLeftOnlyByReset := by
  intro s t hs h
  refine ⟨(step_keeps h).pass hs, fun hmoved => ?_⟩
  obtain ⟨-, rfl⟩ | ⟨c, rest, hpending, hexec⟩ := step_cases h
  · exact absurd s.refclkPeriod_preserves.part hmoved
  have hqueue := s.withPending_preserves rest
  have hstays (hsame : Preserves (s.withPending rest) t) : False := hmoved (hqueue.trans hsame).part
  by_cases hc : c ∈ movesPart
  case neg => exact (hstays (exec_preserves hc hexec)).elim
  case pos =>
    simp only [movesPart, List.mem_cons, List.not_mem_nil, or_false] at hc
    obtain rfl | rfl | rfl | rfl := hc
    · cases hexec
      exact .inl ⟨⟨rest, .inl hpending⟩, rfl⟩
    · cases hexec
      exact .inl ⟨⟨rest, .inr hpending⟩, rfl⟩
    · obtain hsame | ⟨-, hpart, hcompleted⟩ := exec_outcomeWrite_cases hexec
      · exact (hstays hsame).elim
      · exact .inr ⟨hpart (hqueue.pass hs), .inl ⟨⟨rest, hpending⟩, hcompleted⟩⟩
    · obtain hsame | ⟨-, hpart, hentered⟩ := exec_reloadPieceRead_cases hexec
      · exact (hstays hsame).elim
      · exact .inr ⟨hpart (hqueue.pass hs), .inr ⟨⟨rest, hpending⟩, hentered⟩⟩

end Sys2Proof.Machine

/-! # Requests, live words and outcomes (chapter 10) -/

/-! ## The checks of the request engine (R162) -/

namespace Sys2Proof.Machine

set_option Elab.async false

section
variable {s : State}

/-- The request commands and no other dispatch a request of the kind that the table gives them. -/
theorem exec_requestKinds {c : Instr} {k : Nat} (h : (c, k) ∈ requestKinds) : knownKind k = true
    ∧ ∃ owner, ∀ s, exec c s = finish s (s.dispatch (· == k) owner) := by
  simp only [requestKinds, List.mem_cons, Prod.mk.injEq, List.not_mem_nil, or_false] at h
  rcases h with ⟨rfl, rfl⟩ | ⟨rfl, rfl⟩ | ⟨rfl, rfl⟩ | ⟨rfl, rfl⟩ | ⟨rfl, rfl⟩ | ⟨rfl, rfl⟩ | ⟨rfl, rfl⟩ | ⟨rfl, rfl⟩
    | ⟨rfl, rfl⟩ | ⟨rfl, rfl⟩ | ⟨rfl, rfl⟩ | ⟨rfl, rfl⟩ | ⟨rfl, rfl⟩ | ⟨rfl, rfl⟩ | ⟨rfl, rfl⟩ | ⟨rfl, rfl⟩ | ⟨rfl, rfl⟩
    | ⟨rfl, rfl⟩ | ⟨rfl, rfl⟩ | ⟨rfl, rfl⟩ | ⟨rfl, rfl⟩
  all_goals exact ⟨rfl, _, fun _ => rfl⟩

theorem State.dispatch_granted {isKind : Nat → Bool} {owner : Request → State → State}
    (hgrant : s.grant = some .requestRead) (hkind : isKind s.request.kind = true) :
    s.dispatch isKind owner = (s.charge .requestRead).checkRequest s.request owner := by
  unfold State.dispatch
  rw [if_pos hkind, State.serve_granted hgrant]

theorem State.checkRequest_notReady {r : Request} {owner : Request → State → State} (hkind : knownKind r.kind = true)
    (hpart : s.part = .notConfigured) (hreload : r.kind ≠ 21) : s.checkRequest r owner = s.answer .notReady 0 := by
  unfold State.checkRequest
  rw [if_neg (by simp [hkind]), if_pos ⟨hpart, hreload⟩]

theorem State.checkRequest_noTerminal {r : Request} {owner : Request → State → State} (hkind : knownKind r.kind = true)
    (hready : s.part = .notConfigured → r.kind = 21) (hrequester : s.knownRequester r.requester = false) :
    s.checkRequest r owner = s.answer .noTerminal 0 := by
  unfold State.checkRequest
  rw [if_neg (by simp [hkind]), if_neg (fun h => h.2 (hready h.1)), if_pos hrequester]

theorem State.checkRequest_unknown {r : Request} {owner : Request → State → State} (hkind : knownKind r.kind = false) :
    s.checkRequest r owner = s.answer .badArg 0 := if_pos hkind

theorem knownKind_eq_false {k : Nat} : knownKind k = false ↔ k = 0 ∨ 21 < k := by
  simp only [knownKind, decide_eq_false_iff_not]
  omega

theorem State.knownRequester_eq_false {q : Nat} :
    s.knownRequester q = false ↔ 64 < q ∨ (q ≠ 0 ∧ s.enabled q = false) := by
  unfold State.knownRequester
  cases s.enabled q
  · simp
    omega
  · simp
    omega

/-- R162: a request that the engine's own checks refuse is answered in its dispatch event, and nothing else happens. -/
theorem answered_at_dispatch {c : Instr} {o : ReqOutcome}
    (h : exec c s = finish s ((s.charge .requestRead).answer o 0)) :
    ∃ t, exec c s = .next t ∧ Answered o 0 s t ∧ Only [.path, .engine] s t := by
  have htouches : Touches [.marks, .path, .engine] s ((s.charge .requestRead).answer o 0) :=
    (s.charge_touches .requestRead).weaken.trans (State.answer_touches ..).weaken
  exact ⟨_, h, (Answered.of_answer (s.charge_engine _) rfl).compose s false, Only.of_touches htouches⟩

end

/-- Settles O18: each check refuses the request in the order in which the engine makes them. -/
theorem theEngineChecksEveryRequest : Obligations.TheEngineChecksEveryRequest := by
  intro s hgrant
  refine ⟨fun c k hck hkind => ?_, fun hkind => answered_at_dispatch ?_⟩
  · obtain ⟨hknown, owner, hexec⟩ := exec_requestKinds hck
    subst hkind
    have hdispatch := State.dispatch_granted (owner := owner) (isKind := (· == s.request.kind)) hgrant
      (beq_self_eq_true _)
    refine ⟨fun hpart hreload => answered_at_dispatch ?_, fun hready hrequester => answered_at_dispatch ?_⟩
    · rw [hexec, hdispatch, State.checkRequest_notReady hknown ((s.charge_part _).trans hpart) hreload]
    · have hrefused : (s.charge .requestRead).knownRequester s.request.requester = false :=
        State.knownRequester_eq_false.mpr (by simpa only [State.enabled, State.term_charge] using hrequester)
      have hready' (h : (s.charge .requestRead).part = .notConfigured) := hready ((s.charge_part _).symm.trans h)
      rw [hexec, hdispatch, State.checkRequest_noTerminal hknown hready' hrefused]
  · have hunknown := knownKind_eq_false.mpr hkind
    show finish s _ = _
    rw [State.dispatch_granted hgrant (by simp [hunknown]), State.checkRequest_unknown hunknown]

end Sys2Proof.Machine

/-! ## Words whose drain hands a value over (R146, R161, R163) -/

namespace Sys2Proof.Machine

set_option Elab.async false

section
variable {s : State} {e : Entry} {q : List Entry} {m : Membership} {f : State → State} {value : Nat}

/-- R93: where one membership stands at every byte of a word, its effect happens once for the whole word. -/
theorem State.handOverBytes_replicate (hm : ∀ a old new s, State.handOver a old new value s m = f s)
    (hf : ∀ s, f (f s) = f s) (n : Nat) : ∀ (s : State) (a : Nat) (olds news : List Byte), olds.length = n + 1 →
    news.length = n + 1 → State.handOverBytes value s a olds news (List.replicate (n + 1) [m]) = f s := by
  induction n with
  | zero =>
    intro s a olds news holds hnews
    obtain ⟨old, rfl⟩ := List.length_eq_one_iff.mp holds
    obtain ⟨new, rfl⟩ := List.length_eq_one_iff.mp hnews
    exact hm ..
  | succ n ih =>
    intro s a olds news holds hnews
    obtain ⟨old, olds, rfl⟩ := List.exists_cons_of_length_eq_add_one holds
    obtain ⟨new, news, rfl⟩ := List.exists_cons_of_length_eq_add_one hnews
    calc State.handOverBytes value s a (old :: olds) (new :: news) (List.replicate (n + 2) [m])
        = State.handOverBytes value (f s) (a + 1) olds news (List.replicate (n + 1) [m]) := by
          rw [List.replicate_succ, State.handOverBytes, List.foldl_cons, List.foldl_nil, hm]
      _ = f s := by rw [ih _ _ _ _ (by simpa using holds) (by simpa using hnews), hf]

theorem State.queue_charge (s : State) (o : MemOp) : (s.charge o).path.queue = s.path.queue := by
  cases o
  case drain =>
    show (if s.pressure = true then s else _).path.queue = _
    split <;> rfl
  all_goals rfl

theorem State.drainOldest_word (hqueue : s.path.queue = e :: q) (hpart : s.part ≠ .passThrough)
    (haligned : e.addr % e.data.length = 0) (hlength : 0 < e.data.length)
    (hmembers : e.members = List.replicate e.data.length [m])
    (hm : ∀ a old new s, State.handOver a old new (leNat e.data) s m = f s) (hf : ∀ s, f (f s) = f s) :
    s.drainOldest = f (s.drainToMemory e q) := by
  obtain ⟨n, hn⟩ := Nat.exists_eq_add_one.mpr hlength
  have hpart' : (s.drainToMemory e q).part ≠ .passThrough := by rwa [(s.drainToMemory_touches e q).part_eq]
  unfold State.drainOldest
  rw [hqueue]
  dsimp only
  unfold State.drainEffects
  rw [if_neg hpart']
  dsimp only
  have holds : (s.readBytes e.addr e.data.length).length = n + 1 := (Memory.length_readBytes ..).trans hn
  rw [if_pos (by simp [alignedAt, haligned]), hmembers.trans (congrArg (List.replicate · [m]) hn)]
  exact State.handOverBytes_replicate hm hf n _ _ _ _ holds hn

/-- The drain of a word that the part takes over: its value goes to the block, once. -/
theorem State.serve_drain_word {p : Membership → Bool} (hp : p m = true) (hgrant : s.grant = some .drain)
    (hqueue : s.path.queue = e :: q) (hpart : s.part ≠ .passThrough)
    (haligned : e.addr % e.data.length = 0) (hlength : 0 < e.data.length)
    (hmembers : e.members = List.replicate e.data.length [m])
    (hm : ∀ a old new s, State.handOver a old new (leNat e.data) s m = f s) (hf : ∀ s, f (f s) = f s) :
    (if s.oldestHas p = true then s.serve .drain State.drainOldest else s)
      = f ((s.charge .drain).drainToMemory e q) := by
  have hhas : s.oldestHas p = true := by
    unfold State.oldestHas
    rw [hqueue]
    dsimp only
    rw [hmembers]
    obtain ⟨n, hn⟩ := Nat.exists_eq_add_one.mpr hlength
    rw [hn, List.replicate_succ, List.any_cons, List.any_cons, hp, bne_iff_ne.mpr hpart]
    rfl
  rw [if_pos hhas, State.serve_granted hgrant]
  exact State.drainOldest_word ((s.queue_charge .drain).trans hqueue) (by simpa using hpart) haligned hlength
    hmembers hm hf

end

/-! ### The key ring's consumer field (R146) -/

section
variable {s : State} {k v : Nat} {g : Ring}

/-- The ring after the drain of its consumer field. -/
def Ring.consumed (g : Ring) (v : Nat) : Ring :=
  { g with consumer := v % 32, overrun := false, headerAsked := g.headerAsked || g.overrun }

theorem Ring.consumed_consumed (g : Ring) (v : Nat) : (g.consumed v).consumed v = g.consumed v := by
  simp [Ring.consumed]

theorem Table.set1_at1 {α : Type} {n : Nat} (t : Table n α) (d : α) (i : Nat) : t.set1 i (t.at1 d i) = t := by
  by_cases hi : 1 ≤ i ∧ i ≤ n
  · unfold Table.set1 Table.at1
    rw [if_neg (by omega), if_neg (by omega)]
    exact Table.set0_at0 t d (i - 1)
  · exact Table.set1_out t _ hi

/-- A terminal written back leaves the state as it was, marks included. -/
theorem State.setTerm_term (s : State) (k : Nat) : s.setTerm k (s.term k) = s := by
  unfold State.setTerm
  rw [if_pos ⟨rfl, rfl⟩]
  unfold State.term
  rw [Table.set1_at1]
  rfl

theorem State.mem_marks_setTerm {r : Terminal} (h : r.overrunMark ≠ (s.term k).overrunMark) :
    .terminal k ∈ (s.setTerm k r).marks := by
  unfold State.setTerm
  dsimp only
  rw [if_neg fun c => h c.2]
  exact State.mem_marks_mark ..

theorem State.setRing_self (hring : (s.term k).ring = some g) : s.setRing k g = s := by
  unfold State.setRing
  rw [← hring]
  exact s.setTerm_term k

theorem State.term_setRing (hk : 1 ≤ k ∧ k ≤ 64) : (s.setRing k g).term k = { s.term k with ring := some g } := by
  unfold State.setRing
  rw [State.term_setTerm, if_pos ⟨rfl, hk⟩]

theorem State.cfg_setRing (s : State) (k : Nat) (g : Ring) (j : Nat) :
    ((s.setRing k g).term j).cfg = (s.term j).cfg := by
  unfold State.setRing
  rw [State.term_setTerm]
  split
  case isTrue h => rw [h.1]
  case isFalse => rfl

theorem State.term_setRing_ne {j : Nat} (hj : j ≠ k) : (s.setRing k g).term j = s.term j := by
  unfold State.setRing
  rw [State.term_setTerm, if_neg fun c => hj c.1.symm]

theorem State.ringConsumerDrained_eq (henabled : s.enabled k = true) (hring : (s.term k).ring = some g) :
    s.ringConsumerDrained k v = s.setRing k (g.consumed v) := by
  unfold State.ringConsumerDrained
  rw [hring]
  exact if_pos henabled

theorem State.ringConsumerDrained_twice (hk : 1 ≤ k ∧ k ≤ 64) (s : State) (v : Nat) :
    (s.ringConsumerDrained k v).ringConsumerDrained k v = s.ringConsumerDrained k v := by
  cases henabled : s.enabled k
  case false =>
    have hsame : s.ringConsumerDrained k v = s := by
      unfold State.ringConsumerDrained
      split
      · exact if_neg (by simp [henabled])
      · rfl
    rw [hsame, hsame]
  case true =>
    cases hring : (s.term k).ring with
    | none =>
      have hsame : s.ringConsumerDrained k v = s := by
        unfold State.ringConsumerDrained
        rw [hring]
      rw [hsame, hsame]
    | some g =>
      have hring' : ((s.setRing k (g.consumed v)).term k).ring = some (g.consumed v) := by rw [State.term_setRing hk]
      have henabled' : (s.setRing k (g.consumed v)).enabled k = true :=
        (congrArg TermCfg.enabled (s.cfg_setRing k _ k)).trans henabled
      rw [State.ringConsumerDrained_eq henabled hring, State.ringConsumerDrained_eq henabled' hring',
        Ring.consumed_consumed, State.setRing_self hring']

end

/-! ### The index words of the control area (R161, R163) -/

section
variable {s : State} {v : Nat}

theorem State.noticeConsumerDrained_twice (s : State) (v : Nat) :
    (s.noticeConsumerDrained v).noticeConsumerDrained v = s.noticeConsumerDrained v := by
  unfold State.noticeConsumerDrained State.driveAttn
  simp [State.withNotices, State.withPins]

theorem State.notices_noticeConsumerDrained (s : State) (v : Nat) : (s.noticeConsumerDrained v).notices
    = { s.notices with
      consumer := v % 64, overflow := false, wordFlag := s.notices.wordFlag || s.notices.overflow } := rfl

theorem attnLevel_eq (p : PartState) (n : NoticeWriter) :
    attnLevel p n = (p == .passThrough || decide (n.published ≠ n.consumer)) := by
  unfold attnLevel
  by_cases h : n.published = n.consumer
  · simp [h]
  · simp [h]

theorem State.pins_noticeConsumerDrained (hpart : s.part ≠ .passThrough) : (s.noticeConsumerDrained v).pins
    = { s.pins with attn := decide (s.notices.published ≠ v % 64) } := by
  have hrunning : (s.part == .passThrough) = false := beq_eq_false_iff_ne.mpr hpart
  show ({ s.pins with attn := attnLevel s.part _ } : Pins) = _
  rw [attnLevel_eq, hrunning, Bool.false_or]
  rfl

end

/-! ### The drain of the entry itself -/

theorem State.queue_drainToMemory (s : State) (e : Entry) (q : List Entry) :
    (s.drainToMemory e q).path.queue = q := by
  unfold State.drainToMemory
  rw [State.announceDrain_path, State.writeBytes_path]
  rfl

/-- The granted drain, up to what it hands over. -/
theorem State.charge_drainToMemory_touches (s : State) (e : Entry) (q : List Entry) :
    Touches [.path, .mem, .copyfit, .link] s ((s.charge .drain).drainToMemory e q) :=
  (s.charge_touches .drain).weaken.trans (State.drainToMemory_touches ..)

/-- Settles O15: one lemma for the drain of a word, one effect per word. -/
theorem liveWordsActAtTheirDrain : Obligations.LiveWordsActAtTheirDrain := by
  intro s e q hgrant hqueue hpart haligned
  have hpart' : ((s.charge .drain).drainToMemory e q).part ≠ .passThrough := by
    rwa [(s.charge_drainToMemory_touches e q).part_eq]
  have hdrained := s.charge_drainToMemory_touches e q
  have hrest := (s.charge .drain).queue_drainToMemory e q
  generalize hd : (s.charge .drain).drainToMemory e q = d at hpart' hdrained hrest
  refine ⟨fun hlength hmembers => ?_, fun hlength hmembers => ?_,
    fun k g hlength hmembers henabled hk1 hk64 hring => ?_⟩
  · have hserved := State.serve_drain_word (p := isRequestProducer) (f := (·.requestProducerDrained (leNat e.data)))
      rfl hgrant hqueue hpart haligned (by omega) (hlength ▸ hmembers) (fun _ _ _ _ => rfl) (fun _ => rfl)
    refine ⟨_, congrArg (finish s) (hserved.trans (by rw [hd])), ?_, ?_, ?_⟩
    · rw [State.compose_path, (State.requestProducerDrained_touches ..).path_eq, hrest]
    · rw [State.compose_engine, ← hdrained.engine_eq]
      rfl
    · exact Only.of_touches (hdrained.weaken.trans (State.requestProducerDrained_touches ..).weaken)
  · have hserved := State.serve_drain_word (p := isNoticeConsumer) (f := (·.noticeConsumerDrained (leNat e.data)))
      rfl hgrant hqueue hpart haligned (by omega) (hlength ▸ hmembers) (fun _ _ _ _ => rfl)
      (fun s => s.noticeConsumerDrained_twice _)
    refine ⟨_, congrArg (finish s) (hserved.trans (by rw [hd])), ?_, ?_, ?_, ?_⟩
    · rw [State.compose_path, (State.noticeConsumerDrained_touches ..).path_eq, hrest]
    · rw [State.compose_notices, State.notices_noticeConsumerDrained, hdrained.notices_eq]
    · rw [State.compose_pins, State.pins_noticeConsumerDrained hpart', hdrained.notices_eq, hdrained.pins_eq]
    · exact Only.of_touches (hdrained.weaken.trans (State.noticeConsumerDrained_touches ..).weaken)
  · have hserved := State.serve_drain_word (p := isKeyConsumer) (f := (·.ringConsumerDrained k (leNat e.data)))
      rfl hgrant hqueue hpart haligned (by omega) (hlength ▸ hmembers) (fun _ _ _ _ => rfl)
      (fun s => s.ringConsumerDrained_twice ⟨hk1, hk64⟩ _)
    have hterm (j : Nat) : d.term j = s.term j := State.term_of_terms hdrained.terms_eq j
    have hset : d.ringConsumerDrained k (leNat e.data) = d.setRing k (g.consumed (leNat e.data)) :=
      State.ringConsumerDrained_eq ((congrArg (fun r => r.cfg.enabled) (hterm k)).trans henabled)
        ((congrArg Terminal.ring (hterm k)).trans hring)
    have htouches :
        Touches [.path, .mem, .link, .copyfit, .terms, .marks] s (d.setRing k (g.consumed (leNat e.data))) :=
      hdrained.weaken.trans (State.setRing_touches ..).weaken
    have hrows := State.compose_rows s (d.setRing k (g.consumed (leNat e.data))) false
    refine ⟨_, congrArg (finish s) (hserved.trans (by rw [hd]; exact hset)), ?_, ?_, fun j hj => ?_, fun j => ?_,
      fun hoverrun => ?_, (htouches.trans (State.compose_touches ..).weaken).1⟩
    · rw [State.compose_path, (State.setRing_touches ..).path_eq, hrest]
    · rw [(hrows k).2.1, State.term_setRing ⟨hk1, hk64⟩]
      rfl
    · rw [(hrows j).2.1, State.term_setRing_ne hj, hterm]
    · rw [(hrows j).1, State.cfg_setRing, hterm]
    · refine (State.compose_touches ..).2.mem (State.mem_marks_setTerm ?_)
      simp [Terminal.overrunMark, hterm, hring, hoverrun, Ring.consumed]

end Sys2Proof.Machine

/-! ## Bytes in memory -/

namespace Sys2Proof.Machine

set_option Elab.async false

section
variable {m : Memory} {a x : Nat} {bs : List Byte}

theorem Memory.read_writeBytes_out (h : x < a ∨ a + bs.length ≤ x) : (m.writeBytes a bs).read x = m.read x := by
  induction bs generalizing m a with
  | nil => rfl
  | cons b bs ih =>
    rw [List.length_cons] at h
    calc ((m.write a b).writeBytes (a + 1) bs).read x
        = (m.write a b).read x := ih (by omega)
      _ = m.read x := by rw [Memory.read_write, if_neg (by omega)]

theorem Memory.read_writeBytes_in {i : Nat} {b : Byte} (h : bs[i]? = some b) :
    (m.writeBytes a bs).read (a + i) = b := by
  induction bs generalizing m a i with
  | nil => simp at h
  | cons c bs ih =>
    cases i with
    | zero =>
      obtain rfl : c = b := by simpa using h
      calc ((m.write a c).writeBytes (a + 1) bs).read (a + 0)
          = (m.write a c).read a := Memory.read_writeBytes_out (by omega)
        _ = c := by rw [Memory.read_write, if_pos rfl]
    | succ i =>
      rw [show a + (i + 1) = a + 1 + i by omega]
      exact ih (by simpa using h)

end

/-! ## The outcome write (R162, R168) -/

section
variable {s : State} {o : ReqOutcome} {note : Nat} {after : AfterOutcome}

theorem State.outcomeServed_mem (s : State) (o : ReqOutcome) (note : Nat) (after : AfterOutcome) :
    (s.outcomeServed o note after).mem = s.mem.writeBytes (s.requestAddr + 2) (outcomeBytes o note) := by
  cases after with
  | plain => exact (State.advanceConsumer_touches _).mem_eq
  | badConfig => exact (State.advanceConsumer_touches _).mem_eq
  | configured c move => exact (State.completeReload_touches _ c move).mem_eq

/-- The outcome of every request but a successful RELOAD lets the consumer index advance. -/
theorem State.outcomeServed_advances (hafter : after = .plain ∨ after = .badConfig) : s.outcomeServed o note after
    = (s.writeBytes (s.requestAddr + 2) (outcomeBytes o note)).advanceConsumer := by
  obtain rfl | rfl := hafter
  · rfl
  · rfl

theorem State.advanceConsumer_engine (s : State) : s.advanceConsumer.engine
    = { s.engine with consumer := (s.engine.consumer + 1) % 32, progress := some .indexWord, wordFlag := true } := rfl

theorem exec_outcomeWrite_granted (hgrant : s.grant = some .outcomeWrite)
    (hprogress : s.engine.progress = some (.answered o note after)) :
    exec .outcomeWrite s = finish s ((s.charge .outcomeWrite).outcomeServed o note after) := by
  have hprogress' : (s.charge .outcomeWrite).engine.progress = some (.answered o note after) := by
    rw [State.charge_engine, hprogress]
  show finish s _ = _
  rw [State.serve_granted hgrant]
  unfold State.writeOutcome
  rw [hprogress']

end

/-- Settles O39: the record's bytes are written whatever follows, and only a successful RELOAD is followed by more. -/
theorem outcomesAreWritten : Obligations.OutcomesAreWritten := by
  intro s o note after hgrant hprogress a
  have hmem : (State.compose s ((s.charge .outcomeWrite).outcomeServed o note after) false).mem
      = s.mem.writeBytes (a + 2) (outcomeBytes o note) := by
    rw [State.compose_mem, State.outcomeServed_mem, State.charge_mem, State.requestAddr, State.charge_base,
      State.charge_engine]
  have hbyte {i : Nat} {b : Byte} (h : (outcomeBytes o note)[i]? = some b) :
      (State.compose s ((s.charge .outcomeWrite).outcomeServed o note after) false).mem.read (a + 2 + i) = b := by
    rw [hmem, Memory.read_writeBytes_in h]
  refine ⟨_, exec_outcomeWrite_granted hgrant hprogress, hbyte (i := 0) rfl, hbyte (i := 1) rfl, hbyte (i := 2) rfl,
    hbyte (i := 3) rfl, fun x hx => ?_, fun hafter => ?_⟩
  · rw [hmem]
    exact Memory.read_writeBytes_out hx
  · rw [State.outcomeServed_advances hafter]
    refine ⟨?_, Only.of_touches ?_⟩
    · rw [State.compose_engine, State.advanceConsumer_engine, State.writeBytes_engine, State.charge_engine]
    · exact ((s.charge_touches _).weaken.trans (State.writeBytes_touches ..).weaken).trans
        (State.advanceConsumer_touches _).weaken

end Sys2Proof.Machine

/-! ## Records in memory (R172, R175, R176, R178) -/

namespace Sys2Proof.Machine

set_option Elab.async false

/-! ### Fields laid out one after the other -/

section
variable {fields : List FieldAt} {m : Memory} {a k size : Nat}

/-- The bytes of a record's fields, one field after the other. -/
def fieldBytes (fields : List FieldAt) : List Byte := fields.flatMap fun f => toLE f.2.1 f.2.2

/-- The fields follow one another from offset `k`, and the last one ends at `size`. -/
def laidOut (size : Nat) : Nat → List FieldAt → Bool
  | k, [] => k == size
  | k, f :: fields => f.1 == k && laidOut size (k + f.2.1) fields

theorem length_toLE (w v : Nat) : (toLE w v).length = w := by
  induction w generalizing v with
  | zero => rfl
  | succ w ih => simp [toLE, ih]

theorem getElem?_toLE {w j : Nat} (v : Nat) (h : j < w) : (toLE w v)[j]? = some (BitVec.ofNat 8 (v / 256 ^ j)) := by
  induction w generalizing v j with
  | zero => omega
  | succ w ih =>
    cases j with
    | zero => simp [toLE]
    | succ j =>
      rw [toLE, List.getElem?_cons_succ, ih _ (by omega), Nat.div_div_eq_div_mul, Nat.pow_succ, Nat.mul_comm]

theorem fieldBytes_cons (f : FieldAt) (fields : List FieldAt) :
    fieldBytes (f :: fields) = toLE f.2.1 f.2.2 ++ fieldBytes fields := List.flatMap_cons

theorem fieldBytes_append (l l' : List FieldAt) : fieldBytes (l ++ l') = fieldBytes l ++ fieldBytes l' :=
  List.flatMap_append

theorem length_fieldBytes (hlaid : laidOut size k fields = true) : k + (fieldBytes fields).length = size := by
  induction fields generalizing k with
  | nil => simpa [laidOut, fieldBytes] using hlaid
  | cons f fields ih =>
    simp only [laidOut, Bool.and_eq_true, beq_iff_eq] at hlaid
    rw [fieldBytes_cons, List.length_append, length_toLE, ← ih hlaid.2, Nat.add_assoc]

/-- Byte `j` of a field stands at the field's offset. -/
theorem getElem?_fieldBytes (hlaid : laidOut size k fields = true) {o w v j : Nat} (hmem : (o, w, v) ∈ fields)
    (hj : j < w) :
    k ≤ o ∧ (fieldBytes fields)[o - k + j]? = some (BitVec.ofNat 8 (v / 256 ^ j)) := by
  induction fields generalizing k with
  | nil => simp at hmem
  | cons f fields ih =>
    simp only [laidOut, Bool.and_eq_true, beq_iff_eq] at hlaid
    obtain ⟨hstart, hrest⟩ := hlaid
    rw [fieldBytes_cons]
    obtain rfl | hmem := List.mem_cons.mp hmem
    · obtain rfl : o = k := hstart
      refine ⟨Nat.le_refl _, ?_⟩
      rw [Nat.sub_self, Nat.zero_add, List.getElem?_append_left ((length_toLE ..).symm ▸ hj), getElem?_toLE _ hj]
    · obtain ⟨hle, hbyte⟩ := ih hrest hmem
      refine ⟨by omega, ?_⟩
      rw [List.getElem?_append_right (by rw [length_toLE]; omega), length_toLE, ← hbyte]
      congr 1
      omega

theorem laidOut_bytes (n : Nat) (v : Nat → Nat) : laidOut n 0 ((List.range n).map fun i => (i, 1, v i)) = true := by
  have h (k : Nat) : laidOut (k + n) k ((List.range' k n).map fun i => (i, 1, v i)) = true := by
    induction n generalizing k with
    | zero => simp [laidOut]
    | succ n ih => simpa [List.range'_succ, laidOut, Nat.add_assoc, Nat.add_comm 1] using ih (k + 1)
  rw [List.range_eq_range']
  have h0 := h 0
  rwa [Nat.zero_add] at h0

/-- R172: writing a record's bytes leaves the record in memory. -/
theorem holds_writeBytes (hlaid : laidOut size 0 fields = true) :
    Holds (m.writeBytes a (fieldBytes fields)) a fields := by
  intro o w v hmem j hj
  rw [Nat.add_assoc]
  exact Memory.read_writeBytes_in (getElem?_fieldBytes hlaid hmem hj).2

theorem fieldBytes_bytes (is : List Nat) (v : Nat → Nat) :
    fieldBytes (is.map fun i => (i, 1, v i)) = is.map fun i => BitVec.ofNat 8 (v i) := by
  induction is with
  | nil => rfl
  | cons i is ih =>
    rw [List.map_cons, fieldBytes_cons, ih]
    rfl

end

/-! ### Codes -/

theorem StoryState.code_eq (x : StoryState) :
    [StoryState.free, .filed, .held, .queued, .sending, .set, .killed].idxOf x = x.code := by cases x <;> rfl

theorem Recount.code_eq (x : Recount) : [Recount.idle, .waiting, .counting].idxOf x = x.code := by cases x <;> rfl

theorem Fit.code_eq (x : Fit) : [Fit.unset, .counting, .under, .fits, .over].idxOf x = x.code := by cases x <;> rfl

theorem PageState.code_eq (x : PageState) :
    [PageState.empty, .makeup, .queued, .sending, .sent, .faulted, .late].idxOf x = x.code := by cases x <;> rfl

theorem EditionState.code_eq (x : EditionState) :
    [EditionState.opened, .lockout, .grace, .closed].idxOf x = x.code := by cases x <;> rfl

theorem PartState.code_eq (x : PartState) : [PartState.notConfigured, .running, .passThrough].idxOf x = x.code := by
  cases x <;> rfl

theorem PartCause.code_eq (x : PartCause) : [PartCause.power, .bus, .reload, .badBase].idxOf x = x.code := by
  cases x <;> rfl

theorem LinkState.code_eq (x : LinkState) : [LinkState.idle, .sending, .halted].idxOf x = x.code := by cases x <;> rfl

theorem TxState.code_eq (x : TxState) : [TxState.idle, .row, .poll, .wait, .answer, .vacant].idxOf x = x.code := by
  cases x <;> rfl

theorem Parity.code_eq (x : Parity) : [Parity.off, .even, .odd].idxOf x = x.code := by cases x <;> rfl

theorem NoticeKind.code_eq (x : NoticeKind) : 1 + [NoticeKind.guard, .image, .busform, .keyloss, .line, .drop, .grace,
    .closed, .late, .fault, .sent, .pass].idxOf x = x.code := by cases x <;> rfl

theorem Cause.code_eq (x : Cause) : [Cause.noCause, .inSend, .set, .unknown, .released, .restricted, .notHolder,
    .control, .keyRing, .read, .write, .dropped, .partWord, .full, .guarded, .parity, .framing, .unsolicited, .answer,
    .overrun, .brk, .up, .down, .fault, .timeout, .badBase].idxOf x = x.code := by cases x <;> rfl

theorem bitAt_eq (b : Bool) (w : Nat) : bitAt b w = bitOf b w := rfl

theorem byteOf_orNone (x : Option Nat) : BitVec.ofNat 8 (orNone x) = byteOrFF x := by cases x <;> rfl

theorem dropCode_eq (x : Option Drop) : dropCode x = match x with
    | none => 0
    | some r => if r.state = .up then 1 else 2 := by
  cases x with
  | none => rfl
  | some r => cases h : r.state <;> simp [dropCode, h]

/-! ### The bytes of each record are its fields -/

section
variable {s : State}

theorem successorIn_eq (l : List Nat) (n : Nat) : successorIn l n = l.getD (l.idxOf n + 1) 0 := by
  induction l with
  | nil => rfl
  | cons x l ih =>
    unfold successorIn
    by_cases hx : x = n
    · rw [if_pos hx, hx, List.idxOf_cons_self]
      cases l <;> rfl
    · rw [if_neg hx, ih, List.idxOf_cons, beq_false_of_ne hx, cond_false, List.getD_cons_succ]

theorem noticeBytes_eq (q : Notice) : q.bytes = fieldBytes (noticeFields q) := by
  simp only [Notice.bytes, noticeFields, NoticeKind.code_eq, Cause.code_eq, ← byteOf_orNone]
  rfl

theorem State.partStateWord_eq (s : State) : s.partStateWord = fieldBytes (partStateFields s) := by
  simp only [State.partStateWord, partStateFields, PartState.code_eq, PartCause.code_eq, LinkState.code_eq, bitAt_eq]
  rfl

theorem State.lineImage_eq (s : State) (n : Nat) : s.lineImage n = fieldBytes (lineFields s n) := by
  simp only [State.lineImage, lineFields, Parity.code_eq, TxState.code_eq, bitAt_eq, State.lineActive_iff, dropCode_eq]
  rfl

theorem State.editionImage_eq (s : State) (e : Nat) : s.editionImage e = fieldBytes (editionFields s e) := by
  simp only [State.editionImage, editionFields, EditionState.code_eq, bitAt_eq]
  rfl

theorem State.basketImage_eq (s : State) (b : Nat) : s.basketImage b = fieldBytes (basketFields s b) := rfl

theorem State.storyImage_eq (s : State) (n : Nat) : s.storyImage n = fieldBytes (storyFields s n) := by
  simp only [State.storyImage, storyFields, StoryState.code_eq, Recount.code_eq, Fit.code_eq, bitAt_eq, ← byteOf_orNone,
    State.basketLink, successorIn_eq]
  rfl

theorem placementSlot_eq (l : List Placed) (i : Nat) : placementSlot l i
    = fieldBytes [(16 + 4 * i, 2, (l.map (·.story)).getD i 0), (18 + 4 * i, 2, (l.map (·.hole)).getD i 0)] := by
  simp only [placementSlot, List.getD_eq_getElem?_getD, List.getElem?_map]
  cases l[i]? with
  | none => simp [fieldBytes, toLE]
  | some q => rfl

theorem State.pageImage_eq (s : State) (p : Nat) : s.pageImage p = fieldBytes (pageFields s p) := by
  have hslots (l : List Placed) (is : List Nat) : is.flatMap (placementSlot l) = fieldBytes (is.flatMap fun i =>
      [(16 + 4 * i, 2, (l.map (·.story)).getD i 0), (18 + 4 * i, 2, (l.map (·.hole)).getD i 0)]) := by
    rw [fieldBytes, List.flatMap_assoc]
    exact congrArg (is.flatMap ·) (funext (placementSlot_eq l))
  simp only [State.pageImage, pageFields, PageState.code_eq, fieldBytes_append, hslots]
  rfl

theorem State.sendQueueImage_eq (s : State) :
    s.sendQueueImage = fieldBytes ((List.range 96).map fun i => (i, 1, orNone s.sendQueue[i]?)) := by
  rw [fieldBytes_bytes]
  exact congrArg ((List.range 96).map ·) (funext fun i => (byteOf_orNone _).symm)

theorem State.terminalImage_eq (s : State) (k : Nat) : s.terminalImage k = fieldBytes (terminalFields s k) := rfl

theorem Table.entries_eq_range {α : Type} {n : Nat} (t : Table n α) (d : α) :
    t.entries = (List.range n).map (t.at0 d) := by
  refine List.ext_getElem (by simp [t.size_eq]) fun i hi _ => ?_
  simp [Table.at0, hi]

theorem State.widthImage_eq (s : State) (f : Nat) : s.widthImage f = fieldBytes
    ((List.range 224).map fun i => (i, 1, (s.copyfit.tables.at0 builtinTable f).at0 0 i)) := by
  rw [fieldBytes_bytes, State.widthImage, Table.entries_eq_range _ 0, List.map_map]
  rfl

/-- R170, R178: an image is written as its layout says. -/
theorem State.itemBytes_eq (s : State) (i : MarkItem) : s.itemBytes i = fieldBytes (imageLayout s i).2.2 := by
  cases i with
  | partState => exact s.partStateWord_eq
  | time => rfl
  | line n => exact s.lineImage_eq n
  | edition e => exact s.editionImage_eq e
  | basket b => exact s.basketImage_eq b
  | story n => exact s.storyImage_eq n
  | page p => exact s.pageImage_eq p
  | sendQueue => exact s.sendQueueImage_eq
  | terminal k => exact s.terminalImage_eq k
  | widths f => exact s.widthImage_eq f

/-- The fields of an image follow one another from its first byte to its last. -/
theorem imageLayout_laidOut (s : State) (i : MarkItem) :
    laidOut (imageLayout s i).2.1 0 (imageLayout s i).2.2 = true := by
  cases i with
  | sendQueue => exact laidOut_bytes 96 _
  | widths f => exact laidOut_bytes 224 _
  | _ => rfl

theorem imageLayout_offset (s : State) (i : MarkItem) : (imageLayout s i).1 = i.offset := by cases i <;> rfl

end

/-! ### The part's own writes (R162, R163, R170) -/

section
variable {s : State} {q : Notice} {qs : List Notice}

theorem State.itemBytes_charge (s : State) (i j : MarkItem) : (s.charge (.image j)).itemBytes i = s.itemBytes i := by
  cases i <;> rfl

/-- R151: where no input differs, the composition marks nothing. -/
theorem State.compose_eq_of_inputs {t : State} (hcommon : t.commonInputs = s.commonInputs)
    (hown : ∀ k, t.ownInputs k = s.ownInputs k) : State.compose s t false = t := by
  have hone (k : Nat) : State.composeOne s (false || decide (s.commonInputs ≠ t.commonInputs)) t k = t := by
    unfold State.composeOne
    simp [hcommon, hown]
  have hall (l : List Nat) :
      l.foldl (State.composeOne s (false || decide (s.commonInputs ≠ t.commonInputs))) t = t := by
    induction l with
    | nil => rfl
    | cons k l ih => rw [List.foldl_cons, hone, ih]
  unfold State.compose
  split
  case isTrue => exact hall _
  case isFalse => rfl

/-- The served write of an image: no input of a status row is among what it changes. -/
theorem exec_imageWrite_granted {i : MarkItem} (hgrant : s.grant = some (.image i)) :
    exec .imageWrite s = .next ((s.charge (.image i)).writeItem i) := by
  have hexec : exec .imageWrite s = finish s ((s.charge (.image i)).writeItem i) := by
    show finish s _ = _
    rw [hgrant]
  rw [hexec]
  exact congrArg Host.Outcome.next (State.compose_eq_of_inputs rfl fun _ => rfl)

/-- R163, R164: the oldest notice is written, the published producer moves on, and ATTN shows it. -/
theorem State.writeNotice_eq (hunwritten : s.notices.unwritten = q :: qs) : s.writeNotice
    = ((s.writeBytes (noticeSlotAddr s.base s.notices.published) q.bytes).withNotices { s.notices with
        published := (s.notices.published + 1) % 64, unwritten := qs, wordFlag := true }).driveAttn := by
  unfold State.writeNotice
  rw [hunwritten]
  rfl

theorem State.writeNotice_mem (hunwritten : s.notices.unwritten = q :: qs) :
    s.writeNotice.mem
      = s.mem.writeBytes (s.base + 0x600 + 16 * s.notices.published) (fieldBytes (noticeFields q)) := by
  rw [State.writeNotice_eq hunwritten, State.driveAttn_mem, State.withNotices_mem, State.writeBytes, State.withMem_mem,
    noticeBytes_eq, noticeSlotAddr]

theorem State.writeNotice_notices (hunwritten : s.notices.unwritten = q :: qs) :
    s.writeNotice.notices = { s.notices with
      published := (s.notices.published + 1) % 64, unwritten := qs, wordFlag := true } := by
  rw [State.writeNotice_eq hunwritten, State.driveAttn_notices, State.withNotices_notices]

theorem State.writeNotice_pins (hunwritten : s.notices.unwritten = q :: qs) :
    s.writeNotice.pins = { s.pins with
      attn := s.part == .passThrough || decide ((s.notices.published + 1) % 64 ≠ s.notices.consumer) } := by
  rw [State.writeNotice_eq hunwritten, State.driveAttn, State.withPins_pins, attnLevel_eq, State.withNotices_notices,
    State.withNotices_part, State.writeBytes_part, State.withNotices_pins, State.writeBytes_pins]

end

/-- Settles O42: each write stores the bytes of its record, and a record's bytes are its fields in their order. -/
theorem thePartWritesItsRecords : Obligations.ThePartWritesItsRecords := by
  intro s
  refine ⟨fun hgrant => ?_, fun q qs hgrant hunwritten => ?_, fun hgrant => ?_, fun i hgrant => ?_⟩
  · have hserved : exec .requestConsumerWrite s = finish s (s.charge .consumerWord).writeConsumerWord :=
      congrArg (finish s) (State.serve_granted hgrant)
    refine ⟨_, hserved, ?_, ?_,
      Only.of_touches ((s.charge_touches _).weaken.trans (State.writeConsumerWord_touches _).weaken)⟩
    · rw [State.compose_mem]
      rfl
    · rw [State.compose_engine]
      rfl
  · have hunwritten' : (s.charge .noticeRecord).notices.unwritten = q :: qs := hunwritten
    have hserved : exec .noticeRecordWrite s = finish s (s.charge .noticeRecord).writeNotice :=
      congrArg (finish s) (State.serve_granted hgrant)
    have htouches : Touches [.marks, .path, .mem, .notices, .pins] s (s.charge .noticeRecord).writeNotice :=
      (s.charge_touches _).weaken.trans (State.writeNotice_touches _).weaken
    have hmem : (State.compose s (s.charge .noticeRecord).writeNotice false).mem
        = s.mem.writeBytes (s.base + 0x600 + 16 * s.notices.published) (fieldBytes (noticeFields q)) := by
      rw [State.compose_mem, State.writeNotice_mem hunwritten', State.charge_mem, State.charge_base,
        State.charge_notices]
    have hlaid : laidOut 16 0 (noticeFields q) = true := rfl
    refine ⟨_, hserved, ?_, fun x hx => ?_, ?_, ?_, Only.of_touches htouches⟩
    · rw [hmem]
      exact holds_writeBytes hlaid
    · rw [hmem]
      refine Memory.read_writeBytes_out ?_
      have hlength := length_fieldBytes hlaid
      omega
    · rw [State.compose_notices, State.writeNotice_notices hunwritten', State.charge_notices]
    · rw [State.compose_pins, State.writeNotice_pins hunwritten', State.charge_pins, State.charge_part,
        State.charge_notices]
  · have hserved : exec .noticeProducerWrite s = finish s (s.charge .producerWord).writeProducerWord :=
      congrArg (finish s) (State.serve_granted hgrant)
    refine ⟨_, hserved, ?_, ?_,
      Only.of_touches ((s.charge_touches _).weaken.trans (State.writeProducerWord_touches _).weaken)⟩
    · rw [State.compose_mem]
      show s.mem.writeBytes _ s.noticeProducerWord = _
      unfold State.noticeProducerWord
      cases s.notices.overflow <;> rfl
    · rw [State.compose_notices]
      rfl
  · intro a size
    have hlaid := imageLayout_laidOut s i
    have hmem : ((s.charge (.image i)).writeItem i).mem = s.mem.writeBytes a (fieldBytes (imageLayout s i).2.2) := by
      rw [← s.itemBytes_eq, show a = s.base + i.offset from congrArg (s.base + ·) (imageLayout_offset s i),
        ← s.itemBytes_charge i i]
      rfl
    refine ⟨_, exec_imageWrite_granted hgrant, ?_, fun x hx => ?_, rfl, ?_⟩
    · rw [hmem]
      exact holds_writeBytes hlaid
    · rw [hmem]
      refine Memory.read_writeBytes_out ?_
      have hlength : 0 + _ = size := length_fieldBytes hlaid
      omega
    · intro r hr
      cases r
      case path => exact absurd (by decide) hr
      case mem => exact absurd (by decide) hr
      case marks => exact absurd (by decide) hr
      all_goals rfl

end Sys2Proof.Machine

/-! ## RELOAD (R166, R167, R173) -/

namespace Sys2Proof.Machine

set_option Elab.async false

/-! ### The configuration that the bytes give -/

section
variable {bytes : List Byte} {n k : Nat}

theorem configOf_line (hn : n < 16) : (configOf bytes).line n = lineCfgOf bytes n := Table.at0_build _ _ hn

theorem configOf_term (hk : 1 ≤ k ∧ k ≤ 64) : (configOf bytes).term k = termCfgOf bytes k :=
  (Table.at1_build _ _ (by omega) hk.2).trans (congrArg (termCfgOf bytes) (Nat.sub_add_cancel hk.1))

theorem termCfgOf_off (h : termField bytes k 0 1 = 0) : termCfgOf bytes k = TermCfg.off := if_pos h

theorem termCfgOf_on (h : termField bytes k 0 1 ≠ 0) : termCfgOf bytes k = {
    enabled := true, line := termField bytes k 1 1, drop := termField bytes k 2 1
    rank := rankOfCode (termField bytes k 3 1), basket := termField bytes k 4 1
    screen := termField bytes k 8 4, ring := termField bytes k 12 4 } := if_neg h

theorem termCfgOf_enabled : (termCfgOf bytes k).enabled = true ↔ termField bytes k 0 1 ≠ 0 := by
  by_cases h : termField bytes k 0 1 = 0
  · simp [termCfgOf_off h, h, TermCfg.off]
  · simp [termCfgOf_on h, h]

/-- A mode other than SHARED's code is read as DIRECT. -/
theorem lineCfgOf_mode : (lineCfgOf bytes n).mode = .direct ↔ lineField bytes n 1 1 ≠ 1 := by
  show (if lineField bytes n 1 1 = 1 then LineMode.shared else .direct) = _ ↔ _
  split
  case isTrue h => simp [h]
  case isFalse h => simp [h]

/-- R173: each field of the configuration is what its bytes say, clamped. -/
theorem configRead_configOf (bytes : List Byte) : ConfigRead bytes (configOf bytes) := by
  refine ⟨Nat.zero_max _, rfl, rfl, rfl, rfl, rfl, fun n hn => ⟨_, configOf_line hn, bne_iff_ne, ?_⟩,
    fun k hk1 hk64 => ⟨_, configOf_term ⟨hk1, hk64⟩, termCfgOf_off, fun hon => ?_⟩⟩
  · have hstop (v : Nat) : (clampTo 1 2 v == 2) = true ↔ 2 ≤ v := by
      rw [beq_iff_eq, clampTo]
      omega
    exact ⟨fun h => lineCfgOf_mode.mpr (by omega), fun h => if_pos h, congrArg parityOfCode, congrArg parityOfCode,
      congrArg parityOfCode, hstop _, Nat.zero_max _⟩
  · rw [termCfgOf_on hon]
    exact ⟨rfl, rfl, rfl, congrArg rankOfCode, congrArg rankOfCode, congrArg rankOfCode, rfl, rfl, rfl⟩

theorem clampCount_eq (lo hi v : Nat) : clampCount lo hi v = if v < lo ∨ hi < v then 1 else 0 := by
  unfold clampCount
  split
  case isTrue h => rw [if_neg (by omega)]
  case isFalse h => rw [if_pos (by omega)]

theorem clampsOf_eq (bytes : List Byte) : clampsOf bytes = clampedValues bytes := by
  have hline : lineClamps bytes = fun n => (if lineField bytes n 3 1 < 1 ∨ 2 < lineField bytes n 3 1 then 1 else 0)
      + if lineField bytes n 4 2 < 0 ∨ 1023 < lineField bytes n 4 2 then 1 else 0 :=
    funext fun n => (congrArg (· + clampCount 0 1023 (lineField bytes n 4 2)) (clampCount_eq 1 2 _)).trans
      (congrArg (_ + ·) (clampCount_eq 0 1023 _))
  simp only [clampsOf, clampedValues, hline, clampCount_eq, lineNumbers]
  rfl

end

/-! ### The structural errors (R167) -/

section
variable {s : State} {bytes : List Byte} {base n k : Nat}

theorem rangesOverlap_iff {a n b m : Nat} (hn : 0 < n) (hm : 0 < m) :
    rangesOverlap a n b m = true ↔ a < b + m ∧ b < a + n := by
  simp [rangesOverlap, hn, hm]

theorem badLine_iff : badLine bytes n = true ↔ 1 < lineField bytes n 1 1 ∨ 2 < lineField bytes n 2 1 := by
  unfold badLine
  rw [Bool.or_eq_true, decide_eq_true_iff, decide_eq_true_iff]
  rfl

/-- Two enabled terminals share a line and a drop. -/
theorem clash_iff : clash (configOf bytes) = true ↔ ∃ k j, k ≠ j
    ∧ (1 ≤ k ∧ k ≤ 64 ∧ termField bytes k 0 1 ≠ 0) ∧ (1 ≤ j ∧ j ≤ 64 ∧ termField bytes j 0 1 ≠ 0)
    ∧ termField bytes k 1 1 = termField bytes j 1 1 ∧ termField bytes k 2 1 = termField bytes j 2 1 := by
  have hpair {k j : Nat} (hk : 1 ≤ k ∧ k ≤ 64) (hj : 1 ≤ j ∧ j ≤ 64) :
      (decide (k < j) && ((configOf bytes).term k).enabled && ((configOf bytes).term j).enabled
        && ((configOf bytes).term k).line == ((configOf bytes).term j).line
        && ((configOf bytes).term k).drop == ((configOf bytes).term j).drop) = true
      ↔ k < j ∧ termField bytes k 0 1 ≠ 0 ∧ termField bytes j 0 1 ≠ 0
        ∧ termField bytes k 1 1 = termField bytes j 1 1 ∧ termField bytes k 2 1 = termField bytes j 2 1 := by
    rw [configOf_term hk, configOf_term hj]
    simp only [Bool.and_eq_true, decide_eq_true_iff, termCfgOf_enabled, beq_iff_eq, and_assoc]
    refine and_congr_right fun _ => and_congr_right fun hk => and_congr_right fun hj => ?_
    rw [termCfgOf_on hk, termCfgOf_on hj]
  unfold clash
  simp only [List.any_eq_true, terminalNumbers, List.mem_range'_1]
  constructor
  · rintro ⟨k, hk, j, hj, h⟩
    obtain ⟨hlt, hk0, hj0, hsame⟩ := (hpair (by omega) (by omega)).mp h
    exact ⟨k, j, by omega, ⟨by omega, by omega, hk0⟩, ⟨by omega, by omega, hj0⟩, hsame⟩
  · rintro ⟨k, j, hne, ⟨hk1, hk64, hk0⟩, ⟨hj1, hj64, hj0⟩, hline, hdrop⟩
    obtain hlt | hlt := Nat.lt_or_gt_of_ne hne
    · exact ⟨k, by omega, j, by omega, (hpair ⟨hk1, hk64⟩ ⟨hj1, hj64⟩).mpr ⟨hlt, hk0, hj0, hline, hdrop⟩⟩
    · exact ⟨j, by omega, k, by omega, (hpair ⟨hj1, hj64⟩ ⟨hk1, hk64⟩).mpr ⟨hlt, hj0, hk0, hline.symm, hdrop.symm⟩⟩

/-- The text block of a registered story has an address in common with the 64 KiB at `base`. -/
theorem State.baseOverText_iff :
    s.baseOverText base = true ↔ ∃ n x, base ≤ x ∧ x < base + 65536 ∧ InText s n x := by
  unfold State.baseOverText
  rw [State.storiesWhere_eq]
  simp only [Bool.not_eq_true', List.isEmpty_eq_false_iff, ne_eq, List.filter_eq_nil_iff, Classical.not_forall,
    Classical.not_not, exists_prop, rangesOverlap, Bool.and_eq_true, decide_eq_true_eq, storyNumbers, List.mem_range'_1,
    Story.registered, bne_iff_ne, InText]
  simp only [controlAreaSize]
  refine exists_congr fun n => ?_
  constructor
  · rintro ⟨hn, hstate, hover⟩
    exact ⟨max base (s.story n).base, by omega, by omega, by omega, by omega, hstate, by omega, by omega⟩
  · rintro ⟨x, hlow, hhigh, h1, h511, hstate, hfrom, hto⟩
    exact ⟨by omega, hstate, by omega⟩

/-- The errors that the record of an enabled terminal `k` can have by itself, with the control area at `base`; a line
that the map does not have counts as DIRECT. -/
def RecordError (bytes : List Byte) (base k : Nat) : Prop :=
  (((configOf bytes).line (termField bytes k 1 1)).mode = .direct ∧ termField bytes k 2 1 ≠ 0)
    ∨ (15 < termField bytes k 1 1 ∨ 3 < termField bytes k 2 1)
    ∨ (termField bytes k 4 1 = 0 ∨ 23 < termField bytes k 4 1)
    ∨ (termField bytes k 3 1 = 0 ∨ 3 < termField bytes k 3 1)
    ∨ (termField bytes k 8 4 % 16 ≠ 0 ∨ addressSpace < termField bytes k 8 4 + 1840)
    ∨ (termField bytes k 12 4 % 4 ≠ 0 ∨ addressSpace < termField bytes k 12 4 + 68)
    ∨ (termField bytes k 8 4 < base + 65536 ∧ base < termField bytes k 8 4 + 1840)
    ∨ (termField bytes k 12 4 < base + 65536 ∧ base < termField bytes k 12 4 + 68)

theorem badTerm_iff (hk : 1 ≤ k ∧ k ≤ 64) :
    badTerm bytes (configOf bytes) base k = true ↔ termField bytes k 0 1 ≠ 0 ∧ RecordError bytes base k := by
  unfold badTerm
  dsimp only
  rw [configOf_term hk, Bool.and_eq_true, termCfgOf_enabled]
  refine and_congr_right fun hon => ?_
  rw [termCfgOf_on hon]
  simp only [RecordError, Bool.or_eq_true, Bool.and_eq_true, beq_iff_eq, bne_iff_ne, decide_eq_true_iff,
    Bool.not_eq_true', validBasket_eq_false, rangesOverlap_iff, or_assoc, controlAreaSize, Nat.zero_lt_succ]
  rfl

/-- R167: the errors of the list, gathered by where the model finds them. -/
theorem hasStructuralError_iff {move : Prop} : HasStructuralError s bytes base move ↔ clash (configOf bytes) = true
    ∨ (∃ k, (1 ≤ k ∧ k ≤ 64) ∧ badTerm bytes (configOf bytes) base k = true)
    ∨ (∃ n, n < 16 ∧ badLine bytes n = true)
    ∨ (move ∧ ∃ n x, base ≤ x ∧ x < base + 65536 ∧ InText s n x) := by
  have hterm {k : Nat} (hon : 1 ≤ k ∧ k ≤ 64 ∧ termField bytes k 0 1 ≠ 0) (h : RecordError bytes base k) :
      ∃ k, (1 ≤ k ∧ k ≤ 64) ∧ badTerm bytes (configOf bytes) base k = true :=
    ⟨k, ⟨hon.1, hon.2.1⟩, (badTerm_iff ⟨hon.1, hon.2.1⟩).mpr ⟨hon.2.2, h⟩⟩
  have hmode {n : Nat} (hn : n ≤ 15) : ((configOf bytes).line n).mode = .direct ↔ lineField bytes n 1 1 ≠ 1 := by
    rw [configOf_line (by omega), lineCfgOf_mode]
  rw [clash_iff]
  unfold HasStructuralError
  constructor
  · rintro (hclash | ⟨k, hon, hline, hdirect, hdrop⟩ | ⟨k, hon, h⟩ | ⟨k, hon, h⟩ | (⟨k, hon, h⟩ | ⟨n, hn, h⟩)
      | ⟨k, hon, h⟩ | ⟨k, hon, h⟩ | ⟨k, hon, h⟩ | hover)
    · exact .inl hclash
    · exact .inr (.inl (hterm hon (.inl ⟨(hmode hline).mpr (by omega), hdrop⟩)))
    · exact .inr (.inl (hterm hon (.inr (.inl h))))
    · exact .inr (.inl (hterm hon (.inr (.inr (.inl h)))))
    · exact .inr (.inl (hterm hon (.inr (.inr (.inr (.inl h))))))
    · exact .inr (.inr (.inl ⟨n, hn, badLine_iff.mpr h⟩))
    · exact .inr (.inl (hterm hon (.inr (.inr (.inr (.inr (.inl h)))))))
    · exact .inr (.inl (hterm hon (.inr (.inr (.inr (.inr (.inr (.inl h))))))))
    · exact .inr (.inl (hterm hon (.inr (.inr (.inr (.inr (.inr (.inr h))))))))
    · exact .inr (.inr (.inr hover))
  · rintro (hclash | ⟨k, hk, hbad⟩ | ⟨n, hn, hbad⟩ | hover)
    · exact .inl hclash
    · obtain ⟨h0, herror⟩ := (badTerm_iff hk).mp hbad
      have hon : 1 ≤ k ∧ k ≤ 64 ∧ termField bytes k 0 1 ≠ 0 := ⟨hk.1, hk.2, h0⟩
      rcases herror with ⟨hdirect, hdrop⟩ | h | h | h | h | h | h
      · by_cases hline : termField bytes k 1 1 ≤ 15
        · obtain hzero | hother : lineField bytes (termField bytes k 1 1) 1 1 = 0
              ∨ 1 < lineField bytes (termField bytes k 1 1) 1 1 := by
            have := (hmode hline).mp hdirect
            omega
          · exact .inr (.inl ⟨k, hon, hline, hzero, hdrop⟩)
          · exact .inr (.inr (.inr (.inr (.inl (.inr ⟨_, Nat.lt_succ_of_le hline, .inl hother⟩)))))
        · exact .inr (.inr (.inl ⟨k, hon, .inl (Nat.lt_of_not_le hline)⟩))
      · exact .inr (.inr (.inl ⟨k, hon, h⟩))
      · exact .inr (.inr (.inr (.inl ⟨k, hon, h⟩)))
      · exact .inr (.inr (.inr (.inr (.inl (.inl ⟨k, hon, h⟩)))))
      · exact .inr (.inr (.inr (.inr (.inr (.inl ⟨k, hon, h⟩)))))
      · exact .inr (.inr (.inr (.inr (.inr (.inr (.inl ⟨k, hon, h⟩))))))
      · exact .inr (.inr (.inr (.inr (.inr (.inr (.inr (.inl ⟨k, hon, h⟩)))))))
    · exact .inr (.inr (.inr (.inr (.inl (.inr ⟨n, hn, badLine_iff.mp hbad⟩)))))
    · exact .inr (.inr (.inr (.inr (.inr (.inr (.inr (.inr hover)))))))

theorem State.newBase_eq (s : State) (w : Nat) : s.newBase w = if w ≠ 0 ∧ w ≠ s.base then some w else none := by
  unfold State.newBase
  split
  case isTrue h => rw [if_neg (by omega)]
  case isFalse h => rw [if_pos (by omega)]

theorem State.structuralError_iff {w : Nat} (hw : w = configField bytes 0 4) : s.structuralError bytes = true
    ↔ HasStructuralError s bytes (if w ≠ 0 ∧ w ≠ s.base then w else s.base) (w ≠ 0 ∧ w ≠ s.base) := by
  have hword : relocationWord bytes = w := hw.symm
  have hterms (b : Nat) : terminalNumbers.any (badTerm bytes (configOf bytes) b) = true
      ↔ ∃ k, (1 ≤ k ∧ k ≤ 64) ∧ badTerm bytes (configOf bytes) b k = true := by
    simp only [List.any_eq_true, terminalNumbers, List.mem_range'_1]
    exact exists_congr fun k => and_congr_left fun _ => by omega
  have hlines : lineNumbers.any (badLine bytes) = true ↔ ∃ n, n < 16 ∧ badLine bytes n = true := by
    simp only [List.any_eq_true, lineNumbers, List.mem_range]
  unfold State.structuralError
  rw [hasStructuralError_iff, hword, State.newBase_eq]
  by_cases hmove : w ≠ 0 ∧ w ≠ s.base
  · simp only [hmove, ↓reduceIte, Option.getD_some, Bool.or_eq_true, hterms, hlines, State.baseOverText_iff, or_assoc,
      ne_eq, not_false_eq_true, and_self, true_and]
  · simp only [hmove, ↓reduceIte, Option.getD_none, Bool.or_eq_true, hterms, hlines, or_assoc, Bool.false_eq_true,
      false_and, or_false]

theorem relocationUnusable_iff {w : Nat} : relocationUnusable w = true ↔ w % 65536 ≠ 0 ∨ addressSpace ≤ w := by
  simp [relocationUnusable, controlAreaSize]

end

/-! ### The validation event (R167) -/

section
variable {s : State} {bytes : List Byte}

theorem State.validate_unusable (h : relocationUnusable (relocationWord bytes) = true) :
    s.validate bytes = s.enterPassThrough := if_pos h

theorem State.validate_badConfig (h : relocationUnusable (relocationWord bytes) ≠ true)
    (herror : s.structuralError bytes = true) : s.validate bytes
      = s.withEngine { s.engine with progress := some (.answered .badConfig 0 .badConfig) } := by
  unfold State.validate
  rw [if_neg h, if_pos herror]

theorem State.validate_configured (h : relocationUnusable (relocationWord bytes) ≠ true)
    (herror : s.structuralError bytes ≠ true) : s.validate bytes
      = s.withEngine { s.engine with progress := some (.answered (if clampsOf bytes = 0 then .done else .clamped)
          (clampsOf bytes) (.configured (configOf bytes) (s.newBase (relocationWord bytes)))) } := by
  unfold State.validate
  rw [if_neg h, if_neg herror]

theorem State.length_readPiece (s : State) (bytes : List Byte) (a : Nat) :
    (bytes ++ s.readBytes a 16).length = bytes.length + 16 := by
  rw [List.length_append, State.readBytes, Memory.length_readBytes]

theorem State.reloadPiece_more (h : bytes.length + 16 < 1280) : s.reloadPiece bytes = s.withEngine { s.engine with
    progress := some (.reloading (bytes ++ s.readBytes (reloadPieceAddr s.base bytes.length) 16)) } := by
  unfold State.reloadPiece
  dsimp only
  rw [if_neg (by rw [State.length_readPiece, reloadBytes]; omega)]

theorem State.reloadPiece_last (h : 1280 ≤ bytes.length + 16) :
    s.reloadPiece bytes = s.validate (bytes ++ s.readBytes (reloadPieceAddr s.base bytes.length) 16) := by
  unfold State.reloadPiece
  dsimp only
  rw [if_pos (by rw [State.length_readPiece, reloadBytes]; omega)]

theorem State.enterPassThrough_engine (s : State) : s.enterPassThrough.engine
    = { s.engine with progress := some (.answered .badArg 0 .plain) } := by
  have hentered (t : State) : t.passEntered.engine = t.engine := by
    unfold State.passEntered
    simp only [State.driveAttn_engine, State.notify_engine, State.mark_engine, State.withCause_engine,
      State.withPart_engine]
  have hanswer (t : State) : (t.answer .badArg 0).engine
      = { t.engine with progress := some (.answered .badArg 0 .plain) } := rfl
  rw [State.enterPassThrough_eq, hanswer, hentered, s.haltBlocks_touches.engine_eq]

theorem exec_reloadPieceRead_granted (hgrant : s.grant = some .reloadPiece)
    (hprogress : s.engine.progress = some (.reloading bytes)) :
    exec .reloadPieceRead s = finish s ((s.charge .reloadPiece).reloadPiece bytes) := by
  have hprogress' : (s.charge .reloadPiece).engine.progress = some (.reloading bytes) := hprogress
  show finish s _ = _
  rw [State.serve_granted hgrant, hprogress']

/-- A step that gives the engine its new progress and does nothing else. -/
theorem progress_step (s : State) (o : MemOp) (x : Option Progress) :
    (State.compose s ((s.charge o).withEngine { s.engine with progress := x }) false).engine
      = { s.engine with progress := x }
    ∧ Only [.path, .engine] s (State.compose s ((s.charge o).withEngine { s.engine with progress := x }) false) :=
  ⟨by rw [State.compose_engine, State.withEngine_engine],
    Only.of_touches ((s.charge_touches o).weaken.trans (State.withEngine_touches ..).weaken)⟩

end

/-! ### The request and its pieces (R166) -/

section
variable {s : State} {bytes : List Byte}

theorem State.checkRequest_passes {r : Request} {owner : Request → State → State} (hkind : knownKind r.kind = true)
    (hready : s.part = .notConfigured → r.kind = 21) (hrequester : s.knownRequester r.requester = true) :
    s.checkRequest r owner = owner r s := by
  unfold State.checkRequest
  rw [if_neg (by simp [hkind]), if_neg (fun h => h.2 (hready h.1)), if_neg (by simp [hrequester])]

theorem exec_reload_granted (hgrant : s.grant = some .requestRead) (hkind : s.request.kind = 21)
    (hrequester : s.knownRequester s.request.requester = true) :
    exec .reload s = finish s (doReload s.request (s.charge .requestRead)) := by
  have hknown : (s.charge .requestRead).knownRequester s.request.requester = true := by
    simpa only [State.knownRequester, State.enabled, State.term_charge] using hrequester
  show finish s _ = _
  rw [State.dispatch_granted hgrant (by simp [hkind, kindReload]),
    State.checkRequest_passes (by simp [hkind, knownKind]) (fun _ => hkind) hknown]

/-- R166: a RELOAD is refused, or its pieces are read next. -/
theorem reload_accepted (hgrant : s.grant = some .requestRead) (hkind : s.request.kind = 21)
    (hrequester : s.knownRequester s.request.requester = true) :
    ∃ t, exec .reload s = .next t ∧ Only [.path, .engine] s t
      ∧ if s.request.requester ≠ 0 then Answered .rank 0 s t
        else if s.link.state = .sending then Answered .busy 0 s t
        else t.engine = { s.engine with progress := some (.reloading []) } := by
  have hexec := exec_reload_granted hgrant hkind hrequester
  unfold doReload at hexec
  split
  case isTrue hterminal =>
    rw [if_pos hterminal] at hexec
    obtain ⟨t, hnext, hanswered, honly⟩ := answered_at_dispatch hexec
    exact ⟨t, hnext, honly, hanswered⟩
  case isFalse hsystem =>
    rw [if_neg hsystem] at hexec
    split
    case isTrue hsending =>
      rw [if_pos ((congrArg Link.state (s.charge_link _)).trans hsending)] at hexec
      obtain ⟨t, hnext, hanswered, honly⟩ := answered_at_dispatch hexec
      exact ⟨t, hnext, honly, hanswered⟩
    case isFalse hsending =>
      rw [if_neg (fun h => hsending ((congrArg Link.state (s.charge_link _)).symm.trans h))] at hexec
      obtain ⟨hengine, honly⟩ := progress_step s .requestRead (some (.reloading []))
      exact ⟨_, hexec, honly, hengine⟩

end

/-- Settles O37: the model's validation finds the errors of R167's list and no others. -/
theorem reloadIsReadAndValidated : Obligations.ReloadIsReadAndValidated := by
  refine ⟨fun s hgrant _ hkind hrequester => reload_accepted hgrant hkind hrequester, ?_⟩
  intro s bytes hgrant hprogress piece all word clamps move error
  have hexec := exec_reloadPieceRead_granted hgrant hprogress
  have hmore (h : bytes.length + 16 < 1280) : (s.charge .reloadPiece).reloadPiece bytes
      = (s.charge .reloadPiece).withEngine { s.engine with progress := some (.reloading all) } :=
    State.reloadPiece_more h
  have hlast (h : 1280 ≤ bytes.length + 16) :
      (s.charge .reloadPiece).reloadPiece bytes = (s.charge .reloadPiece).validate all := State.reloadPiece_last h
  have herror : (s.charge .reloadPiece).structuralError all = true ↔ error := State.structuralError_iff rfl
  have hunusable : relocationUnusable (relocationWord all) = true ↔ word % 65536 ≠ 0 ∨ addressSpace ≤ word :=
    relocationUnusable_iff
  refine ⟨_, hexec, fun h => ?_,
    fun h => ⟨fun hword => ?_, fun hmult hbelow hwrong => ?_, fun hmult hbelow hright => ?_⟩⟩
  · rw [hmore h]
    exact progress_step s .reloadPiece _
  · rw [hlast h, State.validate_unusable (hunusable.mpr hword)]
    obtain ⟨hpart, hcause⟩ := (s.charge .reloadPiece).enterPassThrough_part
    refine ⟨?_, ?_, ?_, ?_⟩
    · rw [State.compose_engine, State.enterPassThrough_engine, State.charge_engine]
    · rw [State.compose_part, hpart]
    · rw [State.compose_cause, hcause]
    · rw [State.compose_base, (State.enterPassThrough_touches _).base_eq, State.charge_base]
  · have husable := mt hunusable.mp (by omega)
    rw [hlast h, State.validate_badConfig husable (herror.mpr hwrong)]
    exact progress_step s .reloadPiece _
  · have husable := mt hunusable.mp (by omega)
    refine ⟨configOf all, configRead_configOf all, ?_⟩
    rw [hlast h, State.validate_configured husable (mt herror.mp hright), clampsOf_eq, State.newBase_eq]
    exact progress_step s .reloadPiece _

end Sys2Proof.Machine
